-- ==== Sys2Proof/Word.lean ====
section
/-! DEFINITION. The words of the 4410: bytes, 48-bit addresses, identifiers, packets and line data (00 Identifiers, R35, R177). -/

namespace Sys2Proof

/-- A byte of a packet or of a line. -/
abbrev Byte := BitVec 8

/-- A byte address, 48 bits wide (00, Addresses and lines). -/
abbrev Addr := BitVec 48

/-- A requester ID, 0 to 15. -/
abbrev Requester := Fin 16

/-- A requester set: bit `n` stands for requester `n` (R177). -/
abbrev RequesterSet := BitVec 16

/-- A packet: its bytes, first byte first, with its length known (R177). -/
abbrev Packet := List Byte

/-- The 64 bytes of a line, in address order (R35). -/
abbrev LineData := Vector Byte 64

/-- A transaction tag, 0 to 31. -/
abbrev Tag := Fin 32

end Sys2Proof
end

