-- ==== Sys2Proof/Syntax.lean ====
section
/-! DEFINITION. The commands of the 4410: one constructor per row of spec/opcode_table.json. -/

namespace Sys2Proof

/-- The two channels that leave for the home (R62). -/
inductive DepartingChannel where
  | request
  | ack
deriving DecidableEq, Repr

/-- A step of the part, named as its row of the table. A row that takes a packet, an entry or a record
out of the state carries no operand; an arrival carries the packet's bytes, an expiry the tag or the pin
record's index, a far departure its channel. -/
inductive Instr where
  | packetArrival (p : Packet)
  | read
  | write
  | lockRead
  | unlockWrite
  | atomic
  | unknownKindRequest
  | responseArrival (p : Packet)
  | grantSData
  | grantXData
  | grantX
  | wbDone
  | ucData
  | ucDone
  | atomicResult
  | fail
  | unknownResponse
  | shortResponse
  | transactionExpiry (tag : Tag)
  | recallArrival (p : Packet)
  | downgrade
  | surrender
  | pinExpiry (record : Fin 4)
  | drainVisit
  | readEntryWindow
  | readEntryWatch
  | readEntryConfig
  | writeEntryWindow
  | writeEntryWatch
  | writeEntryConfig
  | readStatus
  | probeLine
  | listPins
  | drain
  | drainAbort
  | popCapture
  | releaseHold
  | discardHold
  | breakPin
  | trafficReset
  | reattach
  | noticeTake
  | noticeIntervalEnd
  | egressDeparture
  | farPacketDeparture (channel : DepartingChannel)
  | nearLinkDown
  | nearLinkUp
  | farLinkDown
  | farLinkUp
  | coldReset
  | unknownCommand
deriving DecidableEq, Repr

end Sys2Proof
end

