-- ==== Sys2Proof/Decode.lean ====
section
/-! DEFINITION. The command that a word of the table's bits spells. No row of spec/opcode_table.json gives
bits ("fields" is empty in all 51), so no word spells a command (log 5). The packets' own layouts (R177 to
R182) are read and written in Machine/Operands.lean and Machine/Formats.lean. -/

namespace Sys2Proof

/-- The command spelt by the word `w` of `nbits` bits: none, since no row of the table gives bits. -/
def decodeTableWord (_nbits _w : Nat) : Option Instr := none

end Sys2Proof
end

