-- ==== Sys2Proof/Config.lean ====
section
/-! DEFINITION. What the manual leaves open and the model leaves free. -/

namespace Sys2Proof

/-- Whether a WB_DONE or FAIL to a WRITEBACK, a UC_DONE or FAIL to a UC_WRITE, or a FAIL to a FAR_ATOMIC
still fits its entry when bytes follow its header, other than 8 bytes behind the FAIL to a FAR_ATOMIC, which fit.
R68 puts "none" against the first four, which may be the length 0 or no length, and "8 bytes" against the whole row
of FAR_ATOMIC; R177 has surplus bytes ignored except where R68 compares them. FREE VALUE (log 10): no body that a
proof could see. First argument: the entry kind's code of R180; second: the response kind's code of R180. -/
opaque Config.surplusPayloadFits : Byte → Byte → Bool

/-- Bit `i` of the last mask byte of a departing UC_WRITE, where the mask has fewer bits than that: R177 has such
bits ignored by who reads them, and no rule says what the part sends there. FREE VALUE (log 22). The argument: the
bit's number, counted from the first mask byte. -/
opaque Config.spareMaskBit : Nat → Bool

end Sys2Proof
end

