-- ==== Sys2Proof/Machine/State.lean ====
section
/-! DEFINITION. The state of the 4410: every block's state as the manual gives it, plain data, and its value
after a cold reset (R176). -/

namespace Sys2Proof.Machine

/-! ### Names of the manual -/

/-- The state of either link (R16, R62). -/
inductive LinkState where
  | down
  | up
deriving DecidableEq, Repr

/-- The device mode (R166). -/
inductive Mode where
  | isolated
  | operating
deriving DecidableEq, Repr

/-- A window's policy (R19). -/
inductive Policy where
  | wb
  | rc
  | uc
  | deny
deriving DecidableEq, Repr

/-- A window's atomic mode (R19): LOCAL, performed in the cache, or HOME. -/
inductive AtomicMode where
  | inCache
  | atHome
deriving DecidableEq, Repr

/-- The two policies that the default window may have (R22, R156). -/
inductive DefaultPolicy where
  | uc
  | deny
deriving DecidableEq, Repr

/-- A watch entry's action (R128). -/
inductive WatchAction where
  | count
  | capture
  | hold
deriving DecidableEq, Repr

/-- The five kinds of memory request (R1). -/
inductive RequestKind where
  | read
  | write
  | lockRead
  | unlockWrite
  | atomic
deriving DecidableEq, Repr

/-- The two recall kinds (R90). -/
inductive RecallKind where
  | downgrade
  | surrender
deriving DecidableEq, Repr

/-- Where a WRITEBACK's line goes after it is sent (R64). -/
inductive Retain where
  | keep
  | drop
deriving DecidableEq, Repr

/-- The origin of a transaction entry (R58). -/
inductive Origin where
  | request
  | drain
deriving DecidableEq, Repr

/-- The origin of an eviction buffer entry (R61). -/
inductive EvictionOrigin where
  | victim
  | stale
  | drain
deriving DecidableEq, Repr

/-- The states of the drain engine (R140). -/
inductive DrainState where
  | idle
  | scanning
  | finishing
deriving DecidableEq, Repr

/-- The modes of a drain (R140). -/
inductive DrainMode where
  | keep
  | drop
deriving DecidableEq, Repr

/-- The seven notice kinds, in the order of the notice enable bits (R163, R181). -/
inductive NoticeKind where
  | farProtocol
  | farTimeout
  | farFail
  | pinExpired
  | captureFull
  | hold
  | linkLoss
deriving DecidableEq, Repr

/-- The response statuses (R4). -/
inductive RespStatus where
  | ok
  | retry
  | denied
  | policy
  | malformed
  | isolated
  | farTimeout
  | farFail
  | lockBroken
  | nestedLock
  | watchDiscard
  | reset
deriving DecidableEq, Repr

/-- The management statuses (R152). -/
inductive MgmtStatus where
  | ok
  | busy
  | invalidEntry
  | notFound
  | empty
  | denied
  | aborted
  | reset
  | linkDown
  | malformed
deriving DecidableEq, Repr

/-! ### Requests and tables -/

/-- An ATOMIC's op with its operand, and the compare value with CAS alone (R1, R2). -/
inductive AtomicOp where
  | add (operand : BitVec 64)
  | swap (operand : BitVec 64)
  | cas (operand compare : BitVec 64)
deriving DecidableEq, Repr

/-- The fields that belong to a memory request's kind (R1). Mask bit `i` and data byte `i` belong to byte
address + `i` (R2). -/
inductive RequestBody where
  | read (len : Nat)
  | write (len : Nat) (mask : List Bool) (data : List Byte)
  | lockRead (len : Nat)
  | unlockWrite (len : Nat) (mask : List Bool) (data : List Byte)
  | atomic (op : AtomicOp)
deriving DecidableEq, Repr

/-- A memory request that has passed the form check (R1, R10). -/
structure Request where
  requester : Requester
  id        : Byte
  addr      : Addr
  body      : RequestBody
deriving DecidableEq, Repr

/-- A window entry (R19). -/
structure WindowEntry where
  valid      : Bool
  base       : Addr
  exponent   : Nat
  policy     : Policy
  atomicMode : AtomicMode
  readMask   : RequesterSet
  writeMask  : RequesterSet
deriving DecidableEq, Repr

/-- A watch entry with its hit count (R128). The access kinds are the bits of R181: 0 READ, 1 WRITE, 2 LOCK,
3 ATOMIC. -/
structure WatchEntry where
  enable   : Bool
  base     : Addr
  exponent : Nat
  kinds    : BitVec 4
  mask     : RequesterSet
  action   : WatchAction
  hits     : Nat
deriving DecidableEq, Repr

/-- A capture record (R132). -/
structure Capture where
  sequence  : BitVec 16
  requester : Requester
  id        : Byte
  kind      : RequestKind
  addr      : Addr
  len       : Nat
  matched   : List (Fin 8)
  heldSlot  : Option (Fin 4)
deriving DecidableEq, Repr

/-- The configuration record (R156). The notice enable has bit `k` for the `k`-th notice kind (R181). -/
structure ConfigRecord where
  defaultPolicy : DefaultPolicy
  farTimeout    : Nat
  pinTimeout    : Nat
  noticeTarget  : Requester
  noticeEnable  : BitVec 7
  managers      : RequesterSet
deriving DecidableEq, Repr

/-! ### The line directory -/

/-- A set and a way number. -/
structure Loc where
  set : Fin 1024
  way : Fin 4
deriving DecidableEq, Repr

/-- The line states in which a way holds data (R37): S, X, M, UPGRADE and CLEANING. -/
inductive CopyState where
  | s
  | x
  | m
  | upgrade
  | cleaning
deriving DecidableEq, Repr

/-- A way (R35). In I it has neither a line address nor data, in FILL a line address and no usable data
(R35, R37, R51; log 13). -/
inductive Way where
  | i
  | fill (line : Addr)
  | copy (st : CopyState) (line : Addr) (data : LineData)
deriving DecidableEq, Repr

/-- A set: its four ways and its LRU order list, most recently used first (R35, R40). -/
structure DirSet where
  ways : Vector Way 4
  lru  : List (Fin 4)
deriving DecidableEq, Repr

/-- A set after a cold reset: every way I, LRU order list 0, 1, 2, 3 (R54). It is what a set that the
directory does not list reads as (log 20). -/
def DirSet.reset : DirSet := { ways := Vector.replicate 4 .i, lru := [0, 1, 2, 3] }

/-! ### Transactions, recalls and pins -/

/-- A recall record (R90). -/
structure RecallRecord where
  id   : Byte
  line : Addr
  kind : RecallKind
deriving DecidableEq, Repr

/-- What a near request asks of its line at step 7 or in a waiter list (R47, R60): a LOCK_READ carries the
index of the pin record reserved for it. -/
inductive Access where
  | read (len : Nat)
  | write (len : Nat) (mask : List Bool) (data : List Byte)
  | lockRead (len : Nat) (pin : Fin 4)
  | atomic (op : AtomicOp)
deriving DecidableEq, Repr

/-- A waiter record (R60): the offset is the request's address minus its line address. -/
structure Waiter where
  requester : Requester
  id        : Byte
  offset    : Nat
  access    : Access
deriving DecidableEq, Repr

/-- The kind of an ISSUED entry with the fields that its kind has (R58): target, way, copy lost, retain and
eviction slot. -/
inductive TxnKind where
  | fetchS (line : Addr) (loc : Loc)
  | fetchX (line : Addr) (loc : Loc)
  | upgrade (line : Addr) (loc : Loc) (copyLost : Bool)
  | writebackKeep (line : Addr) (loc : Loc)
  | writebackDrop (line : Addr) (slot : Fin 4)
  | ucRead (addr : Addr) (len : Nat)
  | ucWrite (addr : Addr) (len : Nat)
  | farAtomic (addr : Addr)
deriving DecidableEq, Repr

/-- The contents of an ISSUED entry (R58). -/
structure Txn where
  kind     : TxnKind
  waiters  : List Waiter
  noted    : Option RecallRecord
  deadline : Nat
  origin   : Origin
deriving DecidableEq, Repr

/-- A transaction entry: an ORPHANED one keeps its tag alone (R58). -/
inductive TxnEntry where
  | free
  | issued (t : Txn)
  | orphaned
deriving DecidableEq, Repr

/-- An occupied eviction buffer entry (R61), with the tag of its WRITEBACK (R144; log 14). -/
structure EvictionEntry where
  line   : Addr
  data   : LineData
  origin : EvictionOrigin
  tag    : Tag
deriving DecidableEq, Repr

/-- The state of a held pin record, with the fields that state has (R112). -/
inductive PinState where
  | waiting (loc : Option Loc)
  | active (loc : Loc) (deadline : Nat) (deferred : Option RecallRecord)
deriving DecidableEq, Repr

/-- A held pin record (R112). -/
structure Pin where
  owner : Requester
  line  : Addr
  st    : PinState
deriving DecidableEq, Repr

/-- The drain record (R140). -/
structure Drain where
  st            : DrainState
  mode          : DrainMode
  cursorSet     : Nat
  cursorWay     : Fin 4
  waiting       : Bool
  writtenBack   : Nat
  invalidated   : Nat
  skippedPinned : Nat
  failed        : Nat
  outstanding   : Nat
  aborted       : Bool
  pendingReply  : Option (Requester × Byte)
deriving DecidableEq, Repr

/-! ### Notices and packets that leave -/

/-- The detail of a notice: the fields that its kind and source have, the others absent (R164). -/
structure NoticeDetail where
  addr      : Option Addr := none
  tag       : Option Byte := none
  recallId  : Option Byte := none
  requester : Option Requester := none
  requestId : Option Byte := none
  kind      : Option RequestKind := none
  slot      : Option (Fin 4) := none
  lines     : Option Nat := none
deriving DecidableEq, Repr

/-- A pending notice (R163). -/
structure Notice where
  kind   : NoticeKind
  detail : NoticeDetail
  count  : Nat
deriving DecidableEq, Repr

/-- The status record (R160). -/
structure StatusRecord where
  mode        : Mode
  farLink     : LinkState
  issued      : Nat
  orphaned    : Nat
  evictions   : Nat
  recalls     : Nat
  pinsWaiting : Nat
  pinsActive  : Nat
  holds       : Nat
  captures    : Nat
  drainState  : DrainState
  cursorSet   : Nat
  cursorWay   : Fin 4
  pendingKinds : List NoticeKind
deriving DecidableEq, Repr

/-- Where an unacknowledged recall is held (R161). -/
inductive RecallPlace where
  | queued
  | noted
  | deferred
deriving DecidableEq, Repr

/-- The line states that a probe can report (R161, R182). -/
inductive ResidentState where
  | copy (st : CopyState)
  | fill
deriving DecidableEq, Repr

/-- What a probe reports of the directory (R161). -/
structure ProbeResident where
  st          : ResidentState
  loc         : Loc
  lruPosition : Nat
deriving DecidableEq, Repr

/-- The probe record (R161). -/
structure ProbeRecord where
  line     : Addr
  resident : Option ProbeResident
  eviction : Option (Fin 4 × EvictionOrigin)
  txn      : Option (Tag × TxnKind)
  pin      : Option (Fin 4 × PinState)
  unacked  : Option (RecallRecord × RecallPlace)
deriving DecidableEq, Repr

/-- One element of a LIST_PINS reply (R162). -/
structure PinElement where
  index     : Fin 4
  owner     : Requester
  line      : Addr
  active    : Bool
  loc       : Option Loc
  remaining : Nat
  deferred  : Option RecallRecord
deriving DecidableEq, Repr

/-- The fields of a DRAIN reply (R146, R179). -/
structure DrainReport where
  mode          : DrainMode
  writtenBack   : Nat
  invalidated   : Nat
  skippedPinned : Nat
  failed        : Nat
  cursorSet     : Nat
  cursorWay     : Fin 4
deriving DecidableEq, Repr

/-- The reply fields of a MGMT_REPLY (R179). -/
inductive ReplyFields where
  | none
  | window (e : WindowEntry)
  | watch (e : WatchEntry)
  | config (c : ConfigRecord)
  | status (r : StatusRecord)
  | probe (r : ProbeRecord)
  | pins (l : List PinElement)
  | drain (r : DrainReport)
  | capture (c : Capture) (left : Nat)
  | held (requester : Requester) (id : Byte)
  | brokenPin (owner : Requester) (line : Addr)
  | discarded (lines : Nat)
deriving DecidableEq, Repr

/-- A packet that departs on the requester port (1.2, R3, R179). A response carries the kind byte as it
arrived, a reply the command byte as it arrived. -/
inductive NearPacket where
  | response (dest : Requester) (id : Byte) (kind : Byte) (status : RespStatus) (data : List Byte)
  | mgmtReply (dest : Requester) (id : Byte) (command : Byte) (status : MgmtStatus) (fields : ReplyFields)
  | credit (dest : Requester)
  | notice (dest : Requester) (n : Notice)
deriving DecidableEq, Repr

/-- A far request (R63, R64, R65). -/
inductive FarRequest where
  | fetchS (tag : Tag) (line : Addr)
  | fetchX (tag : Tag) (line : Addr)
  | upgrade (tag : Tag) (line : Addr)
  | writeback (tag : Tag) (line : Addr) (retain : Retain) (data : LineData)
  | ucRead (tag : Tag) (addr : Addr) (len : Nat)
  | ucWrite (tag : Tag) (addr : Addr) (len : Nat) (mask : List Bool) (data : List Byte)
  | farAtomic (tag : Tag) (addr : Addr) (op : AtomicOp)
deriving DecidableEq, Repr

/-- The acknowledgement statuses; DIRTY alone carries the line's data (R91). -/
inductive AckStatus where
  | notHeld
  | clean
  | dirty (data : LineData)
  | wbInFlight
  | upgradePending
  | refused
deriving DecidableEq, Repr

/-- A RECALL_ACK (R91). -/
structure RecallAck where
  id     : Byte
  status : AckStatus
deriving DecidableEq, Repr

/-! ### The whole state -/

/-- The state of the 4410, block by block (00, block overview), the present time (R183), the model's own
record of what has left on the three outgoing paths (log 6), and the queue of waiting commands (log 5). -/
structure State where
  nearLink       : LinkState
  credits        : Vector Nat 16
  ingress        : List Packet
  egress         : List NearPacket
  noticeInterval : Option Nat
  watch          : Vector WatchEntry 8
  holds          : Vector (Option Request) 4
  captures       : List Capture
  nextSeq        : BitVec 16
  windows        : Vector WindowEntry 32
  dir            : List (Fin 1024 × DirSet)
  txns           : Vector TxnEntry 32
  eb             : Vector (Option EvictionEntry) 4
  farLink        : LinkState
  reqCh          : List FarRequest
  ackCh          : List RecallAck
  respCh         : List Packet
  recallCh       : List Packet
  recallQueue    : List RecallRecord
  recallCount    : Nat
  pins           : Vector (Option Pin) 4
  drain          : Drain
  config         : ConfigRecord
  mode           : Mode
  notices        : List Notice
  now            : Nat
  wireNear       : List Packet
  wireRequest    : List Packet
  wireAck        : List Packet
  pending        : List Instr
deriving DecidableEq, Repr

/-- Why a step can fault: never. The manual answers every error with a status, an acknowledgement, a notice
or a silent discard (R4, R7, R91, R152, R163), so there is no constructor. -/
inductive Fault where
deriving DecidableEq, Repr

/-- Why a step can be refused. -/
inductive Refusal where
  /-- Raised by an arm of `exec` whose command has no meaning yet (safe). No arm is left so. -/
  | notModelled (mnemonic : String)
deriving DecidableEq, Repr

/-! ### Cold reset values -/

/-- A window entry after a cold reset (R20). -/
def WindowEntry.reset : WindowEntry :=
  { valid := false, base := 0, exponent := 12, policy := .deny, atomicMode := .atHome, readMask := 0,
    writeMask := 0 }

/-- A watch entry after a cold reset (R129). -/
def WatchEntry.reset : WatchEntry :=
  { enable := false, base := 0, exponent := 0, kinds := 15, mask := 0, action := .count, hits := 0 }

/-- The configuration record after a cold reset (R156). -/
def ConfigRecord.reset : ConfigRecord :=
  { defaultPolicy := .deny, farTimeout := 4096, pinTimeout := 64, noticeTarget := 0, noticeEnable := 127,
    managers := 1 }

/-- The drain record after a cold reset (R140). -/
def Drain.reset : Drain :=
  { st := .idle, mode := .keep, cursorSet := 0, cursorWay := 0, waiting := false, writtenBack := 0,
    invalidated := 0, skippedPinned := 0, failed := 0, outstanding := 0, aborted := false,
    pendingReply := none }

/-- The part right after a cold reset (R176). The present time is a DESIGN CHOICE (log 4), the empty wire
records and the empty command queue are the model's own (logs 5, 6). -/
def State.reset : State :=
  { nearLink := .down
    credits := Vector.replicate 16 0
    ingress := []
    egress := []
    noticeInterval := none
    watch := Vector.replicate 8 WatchEntry.reset
    holds := Vector.replicate 4 none
    captures := []
    nextSeq := 0
    windows := Vector.replicate 32 WindowEntry.reset
    dir := []
    txns := Vector.replicate 32 .free
    eb := Vector.replicate 4 none
    farLink := .down
    reqCh := []
    ackCh := []
    respCh := []
    recallCh := []
    recallQueue := []
    recallCount := 0
    pins := Vector.replicate 4 none
    drain := Drain.reset
    config := ConfigRecord.reset
    mode := .isolated
    notices := []
    now := 0
    wireNear := []
    wireRequest := []
    wireAck := []
    pending := [] }

end Sys2Proof.Machine
end

