-- ==== Sys2Proof/Machine/Operands.lean ====
section
/-! DEFINITION. Reading the packets that arrive (R177, R178, R180, R181) and the form check of the requester
port (R10). -/

namespace Sys2Proof.Machine

/-! ### Bytes, numbers and sets (R177) -/

/-- Byte `i` of a packet, a missing byte read as 0 (R177, short packets). -/
def byteAt (p : Packet) (i : Nat) : Byte := p.getD i 0

/-- The unsigned number of a run of bytes, least significant byte first (R177). -/
def leNat : List Byte → Nat
  | [] => 0
  | b :: bs => b.toNat + 256 * leNat bs

/-- The number in the `n` bytes at offset `i`, missing bytes read as 0 (R177). -/
def fieldAt (p : Packet) (i n : Nat) : Nat := leNat ((p.drop i).take n)

/-- The byte address in the 6 bytes at offset `i`. -/
def addrAt (p : Packet) (i : Nat) : Addr := BitVec.ofNat 48 (fieldAt p i 6)

/-- The requester set in the 2 bytes at offset `i` (R177). -/
def setAt (p : Packet) (i : Nat) : RequesterSet := BitVec.ofNat 16 (fieldAt p i 2)

/-- How many whole bytes hold a mask of `k` bits (R177). -/
def maskSize (k : Nat) : Nat := (k + 7) / 8

/-- The first `k` bits of a byte mask: bit `i` is bit `i` modulo 8 of byte `i` / 8; the rest is ignored
(R177). -/
def unpackMask (k : Nat) (bytes : List Byte) : List Bool :=
  (List.range k).map fun i => (byteAt bytes (i / 8)).getLsbD (i % 8)

/-- 64 bytes of line data out of a payload of 64 bytes. -/
def lineDataOf (bytes : List Byte) : LineData :=
  ⟨⟨(bytes ++ List.replicate 64 0).take 64⟩, by simp⟩

/-! ### Request packets (R178) -/

/-- Byte 0: the request kind's code. -/
def kindByte (p : Packet) : Byte := byteAt p 0

/-- Bits 0 to 3 of byte 1: the sender, as the fabric switch stamped it (R1, R178). -/
def senderOf (p : Packet) : Requester := Fin.ofNat 16 ((byteAt p 1).toNat % 16)

/-- Byte 2: the request ID. -/
def requestIdOf (p : Packet) : Byte := byteAt p 2

/-- Byte 10: the op or the command's code. -/
def commandByte (p : Packet) : Byte := byteAt p 10

/-- The bytes behind the 16-byte header. -/
def payloadOf (p : Packet) : List Byte := p.drop 16

/-- The request kinds' codes (R178). -/
def RequestKind.code : RequestKind → Byte
  | .read => 1
  | .write => 2
  | .lockRead => 3
  | .unlockWrite => 4
  | .atomic => 5

/-- The code of kind MGMT (R178). -/
def mgmtCode : Byte := 6

/-- A kind code of 0 or above 6 is unknown (R178). -/
def unknownKind (b : Byte) : Bool := b == 0 || decide (6 < b.toNat)

/-- R10: the length is 1 to 64 and the byte range lies within one line. -/
def rangeFits (addr : Addr) (len : Nat) : Bool :=
  decide (1 ≤ len) && decide (len ≤ 64) && decide (addr.toNat % 64 + len ≤ 64)

/-- The byte mask and the data of a WRITE or UNLOCK_WRITE: absent where the payload is shorter than the mask
bytes, or where the mask bits or the data bytes differ in number from the length (R10, R178). -/
def maskAndData (p : Packet) (len : Nat) : Option (List Bool × List Byte) :=
  let bits := (byteAt p 12).toNat
  let payload := payloadOf p
  let data := payload.drop (maskSize bits)
  if payload.length < maskSize bits then none
  else if bits ≠ len then none
  else if data.length ≠ len then none
  else some (unpackMask bits payload, data)

/-- The op of an ATOMIC with its operands: absent where the op is unknown, where the compare flag does not
agree with the op, or where the payload is too short (R10, R178). -/
def atomicOpOf (p : Packet) : Option AtomicOp :=
  let payload := payloadOf p
  let flag := (byteAt p 11).getLsbD 0
  let operand := BitVec.ofNat 64 (fieldAt payload 0 8)
  let compare := BitVec.ofNat 64 (fieldAt payload 8 8)
  if payload.length < 8 then none
  else match (commandByte p).toNat, flag with
    | 1, false => some (.add operand)
    | 2, false => some (.swap operand)
    | 3, true => if payload.length < 16 then none else some (.cas operand compare)
    | _, _ => none

/-- The fields of a memory request's kind, or none where the form check refuses the packet (R10). -/
def bodyOf (p : Packet) : Option RequestBody :=
  let addr := addrAt p 4
  let len := (byteAt p 3).toNat
  match (kindByte p).toNat with
  | 1 => if rangeFits addr len then some (.read len) else none
  | 2 =>
    if rangeFits addr len then
      match maskAndData p len with
      | some (mask, data) => if mask.any id then some (.write len mask data) else none
      | none => none
    else none
  | 3 => if rangeFits addr len then some (.lockRead len) else none
  | 4 =>
    if rangeFits addr len then
      match maskAndData p len with
      | some (mask, data) => some (.unlockWrite len mask data)
      | none => none
    else none
  | 5 =>
    if addr.toNat % 8 = 0 then
      match atomicOpOf p with
      | some op => some (.atomic op)
      | none => none
    else none
  | _ => none

/-- The form check of a memory request (R10, R178): the request, or none where it is MALFORMED. -/
def parseRequest (p : Packet) : Option Request :=
  match bodyOf p with
  | some body => some { requester := senderOf p, id := requestIdOf p, addr := addrAt p 4, body := body }
  | none => none

/-- How many payload bytes a management command's fields take; none for a code that is no command (R178). -/
def commandFields (code : Nat) : Option Nat :=
  match code with
  | 1 => some 2
  | 2 => some 18
  | 3 => some 0
  | 4 => some 6
  | 5 => some 0
  | 6 => some 1
  | 8 => some 0
  | 9 => some 0
  | 10 => some 1
  | 11 => some 1
  | 12 => some 1
  | 13 => some 0
  | 14 => some 0
  | _ => none

/-- The form check of a MGMT request: the command is known and none of its fields is absent (R10, R178). -/
def commandWellFormed (p : Packet) : Bool :=
  match commandFields (commandByte p).toNat with
  | some n => decide (n ≤ (payloadOf p).length)
  | none => false

/-! ### Far responses and recalls (R180) -/

/-- Byte 0 of a far response: its kind's code. -/
def respKindByte (p : Packet) : Byte := byteAt p 0

/-- Byte 1 of a far response: the tag byte, any value from 0 to 255. -/
def respTagByte (p : Packet) : Byte := byteAt p 1

/-- The bytes behind a far response's 4-byte header. -/
def respPayload (p : Packet) : List Byte := p.drop 4

/-- The recall kind of a code; any other code is unknown (R180). -/
def recallKindOf (b : Byte) : Option RecallKind :=
  match b.toNat with
  | 1 => some .downgrade
  | 2 => some .surrender
  | _ => none

/-- Byte 1 of a recall: the recall ID. -/
def recallIdOf (p : Packet) : Byte := byteAt p 1

/-- Bytes 2 to 7 of a recall: the line address, missing bytes read as 0. -/
def recallLineOf (p : Packet) : Addr := addrAt p 2

/-! ### Table entries (R181) -/

/-- The policy codes (R181). -/
def policyOf (b : Byte) : Option Policy :=
  match b.toNat with
  | 1 => some .wb
  | 2 => some .rc
  | 3 => some .uc
  | 4 => some .deny
  | _ => none

/-- The atomic mode codes (R181). -/
def atomicModeOf (b : Byte) : Option AtomicMode :=
  match b.toNat with
  | 1 => some .inCache
  | 2 => some .atHome
  | _ => none

/-- The watch action codes (R181). -/
def watchActionOf (b : Byte) : Option WatchAction :=
  match b.toNat with
  | 1 => some .count
  | 2 => some .capture
  | 3 => some .hold
  | _ => none

/-- The drain mode codes (R178). -/
def drainModeOf (b : Byte) : Option DrainMode :=
  match b.toNat with
  | 1 => some .keep
  | 2 => some .drop
  | _ => none

/-- The base is a multiple of 2^exponent (R33, R130). -/
def aligned (base : Addr) (exponent : Nat) : Bool := decide (base.toNat % 2 ^ exponent = 0)

/-- A window entry out of its 16 bytes (R181), none where R33 refuses it. -/
def windowOf (e : List Byte) : Option WindowEntry :=
  let exponent := (byteAt e 1).toNat
  let base := addrAt e 4
  if exponent < 12 ∨ 38 < exponent then none
  else if !aligned base exponent then none
  else match policyOf (byteAt e 2), atomicModeOf (byteAt e 3) with
    | some policy, some atomicMode =>
      some { valid := (byteAt e 0).getLsbD 0, base := base, exponent := exponent, policy := policy,
             atomicMode := atomicMode, readMask := setAt e 10, writeMask := setAt e 12 }
    | _, _ => none

/-- A watch entry out of its 16 bytes (R181), its hit count 0, none where R130 refuses it. -/
def watchOf (e : List Byte) : Option WatchEntry :=
  let exponent := (byteAt e 1).toNat
  let base := addrAt e 4
  let kinds := (byteAt e 2).toNat
  if 12 < exponent then none
  else if !aligned base exponent then none
  else if kinds = 0 ∨ 15 < kinds then none
  else match watchActionOf (byteAt e 3) with
    | some action =>
      some { enable := (byteAt e 0).getLsbD 0, base := base, exponent := exponent,
             kinds := BitVec.ofNat 4 kinds, mask := setAt e 10, action := action, hits := 0 }
    | none => none

/-- The default policies that R157 accepts, in the codes of the window policy (R181). -/
def defaultPolicyOf (b : Byte) : Option DefaultPolicy :=
  match policyOf b with
  | some .uc => some .uc
  | some .deny => some .deny
  | _ => none

/-- A configuration record out of its 16 bytes (R181), none where R157 refuses it. -/
def configOf (e : List Byte) : Option ConfigRecord :=
  let farTimeout := fieldAt e 2 2
  let pinTimeout := fieldAt e 4 2
  let target := (byteAt e 1).toNat
  let enable := (byteAt e 6).toNat
  let managers := setAt e 8
  match defaultPolicyOf (byteAt e 0) with
  | none => none
  | some policy =>
    if farTimeout < 16 ∨ 65535 < farTimeout then none
    else if pinTimeout < 1 ∨ 1023 < pinTimeout then none
    else if 15 < target then none
    else if 127 < enable then none
    else if managers = 0 then none
    else some { defaultPolicy := policy, farTimeout := farTimeout, pinTimeout := pinTimeout,
                noticeTarget := Fin.ofNat 16 target, noticeEnable := BitVec.ofNat 7 enable,
                managers := managers }

end Sys2Proof.Machine
end

