-- ==== Sys2Proof/Machine/Formats.lean ====
section
/-! DEFINITION. Writing the packets that leave: departing packets of the requester port (R179), far requests
and acknowledgements (R180), table entries (R181) and reply records (R182). Every zero field is sent as 0
(R177). -/

namespace Sys2Proof.Machine

/-! ### Numbers, masks and codes -/

/-- The low `k` bytes of a number, least significant first (R177). -/
def leBytes : Nat → Nat → List Byte
  | 0, _ => []
  | k + 1, n => BitVec.ofNat 8 n :: leBytes k (n / 256)

/-- The 6 bytes of a byte address. -/
def addrBytes (a : Addr) : List Byte := leBytes 6 a.toNat

/-- One byte holding a number. -/
def byteOf (n : Nat) : Byte := BitVec.ofNat 8 n

/-- One byte holding a requester ID. -/
def requesterByte (r : Requester) : Byte := byteOf r.val

/-- The number whose bit `i` is entry `i` of the list. -/
def bitsNat : List Bool → Nat
  | [] => 0
  | b :: bs => (if b then 1 else 0) + 2 * bitsNat bs

/-- The bits of the last mask byte beyond the mask's last bit: free values (log 22). -/
def spareMaskBits (k : Nat) : List Bool :=
  (List.range (8 * maskSize k - k)).map fun i => Config.spareMaskBit (k + i)

/-- A byte mask in the least number of whole bytes (R177). -/
def maskBytes (mask : List Bool) : List Byte :=
  leBytes (maskSize mask.length) (bitsNat (mask ++ spareMaskBits mask.length))

/-- Flags as one byte, the first flag in bit 0. -/
def flagByte (flags : List Bool) : Byte := byteOf (bitsNat flags)

/-- `k` zero bytes. -/
def zeros (k : Nat) : List Byte := List.replicate k 0

/-- The response status codes (R179). -/
def RespStatus.code : RespStatus → Byte
  | .ok => 0
  | .retry => 1
  | .denied => 2
  | .policy => 3
  | .malformed => 4
  | .isolated => 5
  | .farTimeout => 6
  | .farFail => 7
  | .lockBroken => 8
  | .nestedLock => 9
  | .watchDiscard => 10
  | .reset => 11

/-- The management status codes (R179). -/
def MgmtStatus.code : MgmtStatus → Byte
  | .ok => 0
  | .busy => 1
  | .invalidEntry => 2
  | .notFound => 3
  | .empty => 4
  | .denied => 5
  | .aborted => 6
  | .reset => 7
  | .linkDown => 8
  | .malformed => 9

/-- The policy codes (R181). -/
def Policy.code : Policy → Byte
  | .wb => 1
  | .rc => 2
  | .uc => 3
  | .deny => 4

/-- The atomic mode codes (R181). -/
def AtomicMode.code : AtomicMode → Byte
  | .inCache => 1
  | .atHome => 2

/-- The watch action codes (R181). -/
def WatchAction.code : WatchAction → Byte
  | .count => 1
  | .capture => 2
  | .hold => 3

/-- The default policy in the codes of the window policy (R181). -/
def DefaultPolicy.code : DefaultPolicy → Byte
  | .uc => 3
  | .deny => 4

/-- The drain mode codes (R178). -/
def DrainMode.code : DrainMode → Byte
  | .keep => 1
  | .drop => 2

/-- The drain state codes (R182). -/
def DrainState.code : DrainState → Byte
  | .idle => 0
  | .scanning => 1
  | .finishing => 2

/-- The recall kind codes (R180). -/
def RecallKind.code : RecallKind → Byte
  | .downgrade => 1
  | .surrender => 2

/-- The bit of a notice kind in the notice enable (R181). -/
def NoticeKind.bit : NoticeKind → Nat
  | .farProtocol => 0
  | .farTimeout => 1
  | .farFail => 2
  | .pinExpired => 3
  | .captureFull => 4
  | .hold => 5
  | .linkLoss => 6

/-- The notice kind codes, 1 FAR_PROTOCOL to 7 LINK_LOSS (R182). -/
def NoticeKind.code (k : NoticeKind) : Byte := byteOf (k.bit + 1)

/-- The op codes (R178). -/
def AtomicOp.code : AtomicOp → Byte
  | .add _ => 1
  | .swap _ => 2
  | .cas _ _ => 3

/-- The far request codes (R180) of an entry's kind. -/
def TxnKind.code : TxnKind → Byte
  | .fetchS _ _ => 1
  | .fetchX _ _ => 2
  | .upgrade _ _ _ => 3
  | .writebackKeep _ _ => 4
  | .writebackDrop _ _ => 4
  | .ucRead _ _ => 5
  | .ucWrite _ _ => 6
  | .farAtomic _ => 7

/-- The line state codes of a probe (R182). -/
def ResidentState.code : ResidentState → Byte
  | .copy .s => 1
  | .copy .x => 2
  | .copy .m => 3
  | .fill => 4
  | .copy .upgrade => 5
  | .copy .cleaning => 6

/-- The eviction buffer origin codes (R182). -/
def EvictionOrigin.code : EvictionOrigin → Byte
  | .victim => 1
  | .stale => 2
  | .drain => 3

/-- The recall place codes (R182). -/
def RecallPlace.code : RecallPlace → Byte
  | .queued => 1
  | .noted => 2
  | .deferred => 3

/-! ### Table entries (R181) -/

/-- A window entry in 16 bytes. -/
def WindowEntry.bytes (e : WindowEntry) : List Byte :=
  [flagByte [e.valid], byteOf e.exponent, e.policy.code, e.atomicMode.code] ++ addrBytes e.base
    ++ leBytes 2 e.readMask.toNat ++ leBytes 2 e.writeMask.toNat ++ zeros 2

/-- A watch entry in 16 bytes. -/
def WatchEntry.bytes (e : WatchEntry) : List Byte :=
  [flagByte [e.enable], byteOf e.exponent, byteOf e.kinds.toNat, e.action.code] ++ addrBytes e.base
    ++ leBytes 2 e.mask.toNat ++ leBytes 4 e.hits

/-- The configuration record in 16 bytes. -/
def ConfigRecord.bytes (c : ConfigRecord) : List Byte :=
  [c.defaultPolicy.code, requesterByte c.noticeTarget] ++ leBytes 2 c.farTimeout ++ leBytes 2 c.pinTimeout
    ++ [byteOf c.noticeEnable.toNat, 0] ++ leBytes 2 c.managers.toNat ++ zeros 6

/-! ### Reply records (R182) -/

/-- The status record in 16 bytes. -/
def StatusRecord.bytes (r : StatusRecord) : List Byte :=
  [flagByte [r.mode == .operating, r.farLink == .up], byteOf r.issued, byteOf r.orphaned,
    byteOf r.evictions, byteOf r.recalls, byteOf r.pinsWaiting, byteOf r.pinsActive, byteOf r.holds,
    byteOf r.captures, r.drainState.code] ++ leBytes 2 r.cursorSet ++ [byteOf r.cursorWay.val,
    flagByte ([.farProtocol, .farTimeout, .farFail, .pinExpired, .captureFull, .hold, .linkLoss].map
      fun k => r.pendingKinds.contains k)] ++ zeros 2

/-- A capture record in 16 bytes. -/
def Capture.bytes (c : Capture) : List Byte :=
  leBytes 2 c.sequence.toNat ++ [requesterByte c.requester, c.id, c.kind.code, byteOf c.len]
    ++ addrBytes c.addr ++ [flagByte ((List.finRange 8).map fun i => c.matched.contains i),
      match c.heldSlot with
      | some i => byteOf (128 + i.val)
      | none => 0] ++ zeros 2

/-- A pin element in 20 bytes. -/
def PinElement.bytes (e : PinElement) : List Byte :=
  [byteOf e.index.val, requesterByte e.owner, if e.active then 2 else 1,
    flagByte [e.loc.isSome, e.deferred.isSome]] ++ addrBytes e.line
    ++ (match e.loc with
      | some l => leBytes 2 l.set.val ++ [byteOf l.way.val]
      | none => zeros 3)
    ++ leBytes 2 e.remaining
    ++ (match e.deferred with
      | some r => [r.id, r.kind.code]
      | none => zeros 2) ++ zeros 3

/-- Bytes 7 to 11 of a probe record. -/
def probeResidentBytes : Option ProbeResident → List Byte
  | some r => [r.st.code] ++ leBytes 2 r.loc.set.val ++ [byteOf r.loc.way.val, byteOf r.lruPosition]
  | none => zeros 5

/-- Byte 16 of a probe record: retain KEEP in bit 0, copy lost in bit 1. -/
def txnQualifier : TxnKind → Byte
  | .writebackKeep _ _ => 1
  | .upgrade _ _ copyLost => flagByte [false, copyLost]
  | _ => 0

/-- The probe record in 24 bytes. -/
def ProbeRecord.bytes (r : ProbeRecord) : List Byte :=
  addrBytes r.line
    ++ [flagByte [r.resident.isSome, r.eviction.isSome, r.txn.isSome, r.pin.isSome, r.unacked.isSome]]
    ++ probeResidentBytes r.resident
    ++ (match r.eviction with
      | some (i, o) => [byteOf i.val, o.code]
      | none => zeros 2)
    ++ (match r.txn with
      | some (tag, k) => [byteOf tag.val, k.code, txnQualifier k]
      | none => zeros 3)
    ++ (match r.pin with
      | some (i, .waiting _) => [byteOf i.val, 1]
      | some (i, .active _ _ _) => [byteOf i.val, 2]
      | none => zeros 2)
    ++ (match r.unacked with
      | some (rec, place) => [rec.id, rec.kind.code, place.code]
      | none => zeros 3) ++ zeros 2

/-- A notice's detail in 16 bytes, with a presence bit for each field it has. -/
def NoticeDetail.bytes (d : NoticeDetail) : List Byte :=
  addrBytes (d.addr.getD 0)
    ++ [d.tag.getD 0, d.recallId.getD 0, (d.requester.map requesterByte).getD 0, d.requestId.getD 0,
      (d.kind.map RequestKind.code).getD 0, (d.slot.map fun i => byteOf i.val).getD 0]
    ++ leBytes 2 (d.lines.getD 0)
    ++ [flagByte [d.addr.isSome, d.tag.isSome, d.recallId.isSome, d.requester.isSome, d.requestId.isSome,
      d.kind.isSome, d.slot.isSome, d.lines.isSome], 0]

/-- The fields of a DRAIN reply in 12 bytes (R179). -/
def DrainReport.bytes (r : DrainReport) : List Byte :=
  [r.mode.code] ++ leBytes 2 r.writtenBack ++ leBytes 2 r.invalidated ++ leBytes 2 r.skippedPinned
    ++ leBytes 2 r.failed ++ leBytes 2 r.cursorSet ++ [byteOf r.cursorWay.val]

/-- The reply fields of a MGMT_REPLY (R179). -/
def ReplyFields.bytes : ReplyFields → List Byte
  | .none => []
  | .window e => e.bytes
  | .watch e => e.bytes
  | .config c => c.bytes
  | .status r => r.bytes
  | .probe r => r.bytes
  | .pins l => byteOf l.length :: l.flatMap PinElement.bytes
  | .drain r => r.bytes
  | .capture c left => c.bytes ++ [byteOf left]
  | .held r id => [requesterByte r, id]
  | .brokenPin r line => requesterByte r :: addrBytes line
  | .discarded n => leBytes 2 n

/-! ### Departing packets (R179, R180) -/

/-- A packet of the requester port: an 8-byte header and its payload (R179). -/
def NearPacket.bytes : NearPacket → Packet
  | .response dest id kind status data =>
    [129, requesterByte dest, id, kind, status.code, byteOf data.length] ++ zeros 2 ++ data
  | .mgmtReply dest id command status fields =>
    [130, requesterByte dest, id, command, status.code, 0] ++ leBytes 2 fields.bytes.length
      ++ fields.bytes
  | .credit dest => [131, requesterByte dest] ++ zeros 6
  | .notice dest n =>
    [132, requesterByte dest, 0, n.kind.code, byteOf n.count] ++ zeros 3 ++ n.detail.bytes

/-- The 16-byte header of a far request (R180). -/
def farHeader (kind : Byte) (tag : Tag) (qualifier len : Byte) (addr : Addr) : List Byte :=
  [kind, byteOf tag.val, qualifier, len] ++ addrBytes addr ++ zeros 6

/-- A far request (R180). -/
def FarRequest.bytes : FarRequest → Packet
  | .fetchS tag line => farHeader 1 tag 0 0 line
  | .fetchX tag line => farHeader 2 tag 0 0 line
  | .upgrade tag line => farHeader 3 tag 0 0 line
  | .writeback tag line .keep data => farHeader 4 tag 1 0 line ++ data.toList
  | .writeback tag line .drop data => farHeader 4 tag 2 0 line ++ data.toList
  | .ucRead tag addr len => farHeader 5 tag 0 (byteOf len) addr
  | .ucWrite tag addr len mask data => farHeader 6 tag 0 (byteOf len) addr ++ maskBytes mask ++ data
  | .farAtomic tag addr (.add v) => farHeader 7 tag 1 0 addr ++ leBytes 8 v.toNat
  | .farAtomic tag addr (.swap v) => farHeader 7 tag 2 0 addr ++ leBytes 8 v.toNat
  | .farAtomic tag addr (.cas v c) => farHeader 7 tag 131 0 addr ++ leBytes 8 v.toNat ++ leBytes 8 c.toNat

/-- The acknowledgement status codes (R180). -/
def AckStatus.code : AckStatus → Byte
  | .notHeld => 1
  | .clean => 2
  | .dirty _ => 3
  | .wbInFlight => 4
  | .upgradePending => 5
  | .refused => 6

/-- A RECALL_ACK: a 4-byte header, and the line's data with DIRTY (R180). -/
def RecallAck.bytes (a : RecallAck) : Packet :=
  [a.status.code, a.id] ++ zeros 2 ++
    match a.status with
    | .dirty data => data.toList
    | _ => []

end Sys2Proof.Machine
end

