-- ==== Sys2Proof/Machine/Flags.lean ====
section
/-! DEFINITION. The part's flags are its notices: how an occurrence is recorded in the notice set, one notice
per kind, counted and coalesced (R163, R164, R165). -/

namespace Sys2Proof.Machine

/-- A notice's count rises by one; a count already at 255 stays there (R163). -/
def Notice.again (n : Notice) : Notice := { n with count := if 255 ≤ n.count then n.count else n.count + 1 }

/-- Recording an occurrence (R163): lost when its kind is not enabled; otherwise it raises the pending
notice's count, which keeps its detail and place, or enters a new notice at the end with count 1. -/
def recordOccurrence (enabled : BitVec 7) (kind : NoticeKind) (detail : NoticeDetail) (set : List Notice) :
    List Notice :=
  if enabled.getLsbD kind.bit then
    if set.any (fun n => n.kind == kind) then
      set.map fun n => if n.kind = kind then n.again else n
    else set ++ [{ kind := kind, detail := detail, count := 1 }]
  else set

/-- An occurrence of a kind is raised: the notice set changes by the enable set as it stands (R158, R163). -/
def State.raise (s : State) (kind : NoticeKind) (detail : NoticeDetail) : State :=
  { s with notices := recordOccurrence s.config.noticeEnable kind detail s.notices }

/-- FAR_PROTOCOL raised by the response channel: the tag alone (R164). -/
def State.raiseFarProtocolTag (s : State) (tag : Byte) : State :=
  s.raise .farProtocol { tag := some tag }

/-- FAR_PROTOCOL raised by the recall channel: the recall ID and the line address (R164). -/
def State.raiseFarProtocolRecall (s : State) (id : Byte) (line : Addr) : State :=
  s.raise .farProtocol { recallId := some id, addr := some line }

end Sys2Proof.Machine
end

