-- ==== Sys2Proof/Machine/Ops.lean ====
section
/-! DEFINITION. The named operations over the blocks' state: tables, channels, the directory, transaction
entries, the eviction buffer, pin records and recall acknowledgements. -/

namespace Sys2Proof.Machine

/-! ### Tables -/

/-- A table with entry `i` replaced. -/
def upd {α : Type} {n : Nat} (v : Vector α n) (i : Fin n) (x : α) : Vector α n := v.set i.val x i.isLt

/-- A table with every entry changed. -/
def mapTable {α β : Type} {n : Nat} (f : α → β) (v : Vector α n) : Vector β n :=
  ⟨⟨v.toList.map f⟩, by simp⟩

/-- The lowest index whose entry satisfies `p`. -/
def lowest {α : Type} {n : Nat} (v : Vector α n) (p : α → Bool) : Option (Fin n) :=
  (List.finRange n).find? fun i => p v[i]

/-- How many entries satisfy `p`. -/
def tally {α : Type} {n : Nat} (v : Vector α n) (p : α → Bool) : Nat := v.toList.countP p

/-! ### Lines (00, Addresses and lines) -/

/-- The line address of a byte address: that address with its low six bits zero. -/
def lineOf (a : Addr) : Addr := a &&& 0xFFFFFFFFFFC0#48

/-- A byte address minus its line address. -/
def offsetOf (a : Addr) : Nat := a.toNat % 64

/-- The set index of a line: its line address divided by 64, modulo 1024. -/
def setIndex (line : Addr) : Fin 1024 := Fin.ofNat 1024 (line.toNat / 64)

/-! ### What leaves the part -/

/-- A packet produced for the requester port joins the egress, or is discarded while the near link is DOWN
(R15). -/
def State.emit (s : State) (p : NearPacket) : State :=
  { s with egress := if s.nearLink = .up then s.egress ++ [p] else s.egress }

/-- A far request joins the request channel, or is discarded while the far link is DOWN (R62). -/
def State.sendFar (s : State) (r : FarRequest) : State :=
  { s with reqCh := if s.farLink = .up then s.reqCh ++ [r] else s.reqCh }

/-- A RECALL_ACK joins the ack channel, or is discarded while the far link is DOWN (R62, R91). -/
def State.sendAck (s : State) (id : Byte) (status : AckStatus) : State :=
  { s with ackCh := if s.farLink = .up then s.ackCh ++ [{ id := id, status := status }] else s.ackCh }

/-- An unacknowledged recall is acknowledged: the count falls by one (R92). -/
def State.ackRecall (s : State) (id : Byte) (status : AckStatus) : State :=
  { s.sendAck id status with recallCount := s.recallCount - 1 }

/-- The kind of a memory request. -/
def RequestBody.kind : RequestBody → RequestKind
  | .read _ => .read
  | .write _ _ _ => .write
  | .lockRead _ => .lockRead
  | .unlockWrite _ _ _ => .unlockWrite
  | .atomic _ => .atomic

/-- The length of a request's byte range: 8 for an ATOMIC (R1, R178). -/
def RequestBody.len : RequestBody → Nat
  | .read len => len
  | .write len _ _ => len
  | .lockRead len => len
  | .unlockWrite len _ _ => len
  | .atomic _ => 8

/-- A memory request is answered (R3). -/
def State.answer (s : State) (q : Request) (status : RespStatus) (data : List Byte := []) : State :=
  s.emit (.response q.requester q.id q.body.kind.code status data)

/-- The kind of a waiter's request (R60). -/
def Access.kind : Access → RequestKind
  | .read _ => .read
  | .write _ _ _ => .write
  | .lockRead _ _ => .lockRead
  | .atomic _ => .atomic

/-- A waiter is answered (R3, R60). -/
def State.answerWaiter (s : State) (w : Waiter) (status : RespStatus) (data : List Byte := []) : State :=
  s.emit (.response w.requester w.id w.access.kind.code status data)

/-! ### Credits and the ingress queue (R6, R8) -/

/-- The request path takes the oldest request: it leaves the ingress queue, its requester's count rises by
one and a CREDIT is sent to it (R6). -/
def State.takeHead (s : State) (p : Packet) (rest : List Packet) : State :=
  { s with ingress := rest
           credits := upd s.credits (senderOf p) (s.credits[senderOf p] + 1) }.emit (.credit (senderOf p))

/-! ### The directory (R35, R40, R41) -/

/-- The set of index `i`: an unlisted set is as a cold reset leaves it (R54). -/
def readSet : List (Fin 1024 × DirSet) → Fin 1024 → DirSet
  | [], _ => DirSet.reset
  | (j, v) :: t, i => if j = i then v else readSet t i

/-- Set `i` replaced, keeping the list's one form: rising set numbers, no entry equal to the reset set. -/
def writeSet : List (Fin 1024 × DirSet) → Fin 1024 → DirSet → List (Fin 1024 × DirSet)
  | [], i, v => if v = DirSet.reset then [] else [(i, v)]
  | (j, u) :: t, i, v =>
    if i < j then (if v = DirSet.reset then (j, u) :: t else (i, v) :: (j, u) :: t)
    else if j = i then (if v = DirSet.reset then t else (i, v) :: t)
    else (j, u) :: writeSet t i v

/-- Every set changed by `f`, which leaves the reset set as it is. -/
def mapSets (f : DirSet → DirSet) (d : List (Fin 1024 × DirSet)) : List (Fin 1024 × DirSet) :=
  (d.map fun e => (e.1, f e.2)).filter fun e => e.2 ≠ DirSet.reset

/-- The directory's one form: set numbers strictly rising, no listed set equal to the reset set. -/
def dirWf (d : List (Fin 1024 × DirSet)) : Bool :=
  decide (d.Pairwise fun a b => a.1 < b.1) && d.all fun e => e.2 ≠ DirSet.reset

/-- The way at a set and way number. -/
def State.wayAt (s : State) (l : Loc) : Way := (readSet s.dir l.set).ways[l.way]

/-- A way is replaced; its set's LRU order list stands. -/
def State.putWay (s : State) (l : Loc) (w : Way) : State :=
  let d := readSet s.dir l.set
  { s with dir := writeSet s.dir l.set { d with ways := upd d.ways l.way w } }

/-- A way number moved to the front, the order of the others kept (R40). -/
def toFront (w : Fin 4) (l : List (Fin 4)) : List (Fin 4) := w :: l.filter fun v => v ≠ w

/-- The way moves to the front of its set's LRU order list (R40). -/
def State.touch (s : State) (l : Loc) : State :=
  let d := readSet s.dir l.set
  { s with dir := writeSet s.dir l.set { d with lru := toFront l.way d.lru } }

/-- The line a way holds: none in I. -/
def Way.line? : Way → Option Addr
  | .i => none
  | .fill line => some line
  | .copy _ line _ => some line

/-- The lookup of R41: the way of the line's set that holds the line in a state other than I. -/
def State.lookup (s : State) (line : Addr) : Option Loc :=
  (lowest (readSet s.dir (setIndex line)).ways fun w => w.line? == some line).map
    fun w => { set := setIndex line, way := w }

/-- The way is in M. -/
def Way.isM : Way → Bool
  | .copy .m _ _ => true
  | _ => false

/-- The number of ways in state M (R55, R56). -/
def State.countM (s : State) : Nat := (s.dir.map fun e => tally e.2.ways Way.isM).sum

/-! ### Transaction entries (R58, R59) -/

/-- The entry is FREE. -/
def TxnEntry.isFree : TxnEntry → Bool
  | .free => true
  | _ => false

/-- The FREE entry of lowest tag (R59). -/
def State.freeTag (s : State) : Option Tag := lowest s.txns TxnEntry.isFree

/-- An entry is replaced. -/
def State.putEntry (s : State) (tag : Tag) (e : TxnEntry) : State := { s with txns := upd s.txns tag e }

/-- An entry becomes FREE; a drain that waits for resources may visit again (R59, R145). -/
def State.releaseTag (s : State) (tag : Tag) : State :=
  { s with txns := upd s.txns tag .free, drain := { s.drain with waiting := false } }

/-- A far request is issued, or reissued, under a tag: the entry is ISSUED with the deadline that the far
timeout gives now, and the request joins the request channel (R59, R62, R66). -/
def State.issue (s : State) (tag : Tag) (kind : TxnKind) (waiters : List Waiter)
    (noted : Option RecallRecord) (origin : Origin) (r : FarRequest) : State :=
  let t : Txn := { kind := kind, waiters := waiters, noted := noted,
                   deadline := s.now + s.config.farTimeout, origin := origin }
  (s.putEntry tag (.issued t)).sendFar r

/-- The line that an entry's kind names for R41 and R59: FETCH_S, FETCH_X, UPGRADE and WRITEBACK. -/
def TxnKind.line? : TxnKind → Option Addr
  | .fetchS line _ => some line
  | .fetchX line _ => some line
  | .upgrade line _ _ => some line
  | .writebackKeep line _ => some line
  | .writebackDrop line _ => some line
  | .ucRead _ _ => none
  | .ucWrite _ _ => none
  | .farAtomic _ => none

/-- The kind is WRITEBACK. -/
def TxnKind.isWriteback : TxnKind → Bool
  | .writebackKeep _ _ => true
  | .writebackDrop _ _ => true
  | _ => false

/-- The way that a fetch or upgrade names: its waiter list is the list of that way's line (R38, R47). -/
def TxnKind.fetchLoc? : TxnKind → Option Loc
  | .fetchS _ loc => some loc
  | .fetchX _ loc => some loc
  | .upgrade _ loc _ => some loc
  | _ => none

/-- The target address of an entry (R164). -/
def TxnKind.target : TxnKind → Addr
  | .fetchS line _ => line
  | .fetchX line _ => line
  | .upgrade line _ _ => line
  | .writebackKeep line _ => line
  | .writebackDrop line _ => line
  | .ucRead addr _ => addr
  | .ucWrite addr _ => addr
  | .farAtomic addr => addr

/-- An ISSUED WRITEBACK whose target is the line. -/
def TxnEntry.writesBack (line : Addr) : TxnEntry → Bool
  | .issued t => t.kind.isWriteback && t.kind.line? == some line
  | _ => false

/-- The line is write-back pending (R41). -/
def State.writebackPending (s : State) (line : Addr) : Bool :=
  (lowest s.txns (TxnEntry.writesBack line)).isSome

/-- The fetch or upgrade entry that names the way (R38). -/
def State.fetchOf (s : State) (loc : Loc) : Option (Tag × Txn) :=
  match lowest s.txns (fun e => match e with
    | .issued t => t.kind.fetchLoc? == some loc
    | _ => false) with
  | some tag =>
    match s.txns[tag] with
    | .issued t => some (tag, t)
    | _ => none
  | none => none

/-! ### The eviction buffer (R61) -/

/-- The free eviction buffer entry of lowest index. -/
def State.freeSlot (s : State) : Option (Fin 4) := lowest s.eb Option.isNone

/-- The line is held by an eviction buffer entry. -/
def State.inEvictionBuffer (s : State) (line : Addr) : Bool :=
  (lowest s.eb fun e => match e with
    | some v => v.line == line
    | none => false).isSome

/-- An eviction buffer entry is freed and its contents discarded; a drain that waits for resources may visit
again (R61, R145). -/
def State.releaseSlot (s : State) (slot : Fin 4) : State :=
  { s with eb := upd s.eb slot none, drain := { s.drain with waiting := false } }

/-- A modified line is sent home: its line and data move from the way to the eviction buffer, the way is I,
and a WRITEBACK DROP is issued (R61, R64). -/
def State.evict (s : State) (loc : Loc) (line : Addr) (data : LineData) (slot : Fin 4) (tag : Tag)
    (why : EvictionOrigin) (origin : Origin) : State :=
  let s1 := s.putWay loc .i
  let s2 := { s1 with eb := upd s1.eb slot (some { line := line, data := data, origin := why, tag := tag }) }
  s2.issue tag (.writebackDrop line slot) [] none origin (.writeback tag line .drop data)

/-! ### Pin records (R112) -/

/-- A pin record is replaced or freed. -/
def State.putPin (s : State) (i : Fin 4) (p : Option Pin) : State := { s with pins := upd s.pins i p }

/-- The free pin record of lowest index (R113). -/
def State.freePinRecord (s : State) : Option (Fin 4) := lowest s.pins Option.isNone

/-- The record is ACTIVE on the way. -/
def Pin.activeAt (loc : Loc) (p : Pin) : Bool :=
  match p.st with
  | .active l _ _ => l == loc
  | .waiting _ => false

/-- The record is ACTIVE. -/
def Pin.isActive (p : Pin) : Bool :=
  match p.st with
  | .active _ _ _ => true
  | .waiting _ => false

/-- The record names the way (R39): once step 7 has recorded it while WAITING, and always while ACTIVE. -/
def Pin.names (loc : Loc) (p : Pin) : Bool :=
  match p.st with
  | .active l _ _ => l == loc
  | .waiting l => l == some loc

/-- The ACTIVE record that names the way. -/
def State.activePinAt (s : State) (loc : Loc) : Option (Fin 4) :=
  lowest s.pins fun r => r.any (Pin.activeAt loc)

/-- A way is pinned when a pin record names its set and way (R39). -/
def State.pinned (s : State) (loc : Loc) : Bool := (lowest s.pins fun r => r.any (Pin.names loc)).isSome

/-- The ACTIVE record of the requester on the line (R25, R118). -/
def State.ownPin (s : State) (r : Requester) (line : Addr) : Option (Fin 4) :=
  lowest s.pins fun p => p.any fun v => v.isActive && v.owner == r && v.line == line

/-- A LOCK_READ that will not be activated frees its WAITING record (R114, R116). -/
def State.freeWaiterPin (s : State) (w : Waiter) : State :=
  match w.access with
  | .lockRead _ i => s.putPin i none
  | _ => s

/-- A request at step 7, or a waiter, is answered RETRY; a LOCK_READ's reserved record is freed (R42, R73,
R114). -/
def State.refuse (s : State) (w : Waiter) : State := (s.freeWaiterPin w).answerWaiter w .retry

/-- A LOCK_READ that waits records its way in its pin record (R114). -/
def State.recordWay (s : State) (w : Waiter) (loc : Loc) : State :=
  match w.access with
  | .lockRead _ i =>
    match s.pins[i] with
    | some p => s.putPin i (some { p with st := .waiting (some loc) })
    | none => s
  | _ => s

/-- Every waiter of a list is answered with the status, in list order, and every LOCK_READ's WAITING record
is freed (R80, R84, R116). -/
def State.answerAll (s : State) (ws : List Waiter) (status : RespStatus) : State :=
  ws.foldl (fun s w => (s.freeWaiterPin w).answerWaiter w status) s

/-! ### Reading and writing a line's bytes (R2) -/

/-- `len` bytes of a line from an offset. -/
def lineBytes (data : LineData) (offset len : Nat) : List Byte := (data.toList.drop offset).take len

/-- A list of bytes with those of another laid over it where the mask is set. -/
def overlay : List Byte → List Bool → List Byte → List Byte
  | old, [], _ => old
  | old, _, [] => old
  | [], _, _ => []
  | b :: old, m :: mask, d :: data => (if m then d else b) :: overlay old mask data

/-- Each byte of the byte range whose mask bit is set is replaced by the data byte (R2, R44). -/
def writeBytes (data : LineData) (offset : Nat) (mask : List Bool) (bytes : List Byte) : LineData :=
  lineDataOf (data.toList.take offset ++ overlay (data.toList.drop offset) mask bytes)

/-- The 8 bytes as one unsigned quantity, least significant byte at the lowest address (R2). -/
def quantityAt (data : LineData) (offset : Nat) : BitVec 64 := BitVec.ofNat 64 (leNat (lineBytes data offset 8))

/-- The quantity after the op (R2). -/
def AtomicOp.apply (op : AtomicOp) (old : BitVec 64) : BitVec 64 :=
  match op with
  | .add v => old + v
  | .swap v => v
  | .cas v compare => if old = compare then v else old

/-- The line after an atomic at the offset (R2, R45). -/
def writeQuantity (data : LineData) (offset : Nat) (v : BitVec 64) : LineData :=
  writeBytes data offset (List.replicate 8 true) (leBytes 8 v.toNat)

end Sys2Proof.Machine
end

