-- ==== Sys2Proof/Machine/Recalls.lean ====
section
/-! DEFINITION. The recall unit (05): the arrival checks, the taking of a recall, and its application to the
line as it stands. -/

namespace Sys2Proof.Machine

/-- What a way that held a copy becomes after a recall (R95, R96): S after a DOWNGRADE, I after a SURRENDER. -/
def afterRecall (kind : RecallKind) (line : Addr) (data : LineData) : Way :=
  match kind with
  | .downgrade => .copy .s line data
  | .surrender => .i

/-- The recall is noted on the fetch or upgrade entry that names the way (R97). -/
def State.noteRecall (s : State) (loc : Loc) (r : RecallRecord) : State :=
  match s.fetchOf loc with
  | some (tag, t) => s.putEntry tag (.issued { t with noted := some r })
  | none => s

/-- The copy lost flag of the UPGRADE entry that names the way is set (R98). -/
def State.markCopyLost (s : State) (loc : Loc) : State :=
  match s.fetchOf loc with
  | some (tag, t) =>
    match t.kind with
    | .upgrade line l _ => s.putEntry tag (.issued { t with kind := .upgrade line l true })
    | _ => s
  | none => s

/-- The recall is written into the ACTIVE pin record's deferred recall field (R99). -/
def State.deferRecall (s : State) (i : Fin 4) (r : RecallRecord) : State :=
  match s.pins[i] with
  | some p =>
    match p.st with
    | .active loc deadline _ => s.putPin i (some { p with st := .active loc deadline (some r) })
    | .waiting _ => s
  | none => s

/-- A recall that finds a copy with data, not under an ACTIVE pin (cases 3 to 6 of R94). -/
def State.recallCopy (s : State) (loc : Loc) (r : RecallRecord) (st : CopyState) (line : Addr)
    (data : LineData) : State :=
  match st with
  | .upgrade =>
    match r.kind with
    | .downgrade => s.ackRecall r.id .clean
    | .surrender => ((s.putWay loc (.fill line)).markCopyLost loc).ackRecall r.id .upgradePending
  | .cleaning => (s.putWay loc (afterRecall r.kind line data)).ackRecall r.id .wbInFlight
  | .s =>
    (s.putWay loc (afterRecall r.kind line data)).ackRecall r.id
      (if s.writebackPending line then .wbInFlight else .clean)
  | .x => (s.putWay loc (afterRecall r.kind line data)).ackRecall r.id .clean
  | .m => (s.putWay loc (afterRecall r.kind line data)).ackRecall r.id (.dirty data)

/-- The recall unit examines the line as R94 gives for OPERATING, from case 1. -/
def State.applyRecall (s : State) (r : RecallRecord) : State :=
  match s.lookup r.line with
  | some loc =>
    match s.activePinAt loc with
    | some i => s.deferRecall i r
    | none =>
      match s.wayAt loc with
      | .i => s
      | .fill _ => s.noteRecall loc r
      | .copy st line data => s.recallCopy loc r st line data
  | none =>
    if s.inEvictionBuffer r.line || s.writebackPending r.line then s.ackRecall r.id .wbInFlight
    else s.ackRecall r.id .notHeld

/-- A recall handed over by the event that ends its noting or its deferral (R101, R102). -/
def State.applyHeldRecall (s : State) : Option RecallRecord → State
  | some r => s.applyRecall r
  | none => s

/-- A noted recall whose fetch failed or expired is acknowledged NOT_HELD (R80, R84, R101). -/
def State.dropNoted (s : State) : Option RecallRecord → State
  | some r => s.ackRecall r.id .notHeld
  | none => s

/-- The recall is taken from the head of the queue: NOT_HELD without a lookup in ISOLATED, else applied to
the line as it stands (R94, R100). -/
def State.takeRecall (s : State) (kind : RecallKind) : State :=
  match s.recallQueue with
  | r :: rest =>
    if r.kind = kind then
      let s1 := { s with recallQueue := rest }
      match s.mode with
      | .isolated => s1.ackRecall r.id .notHeld
      | .operating => s1.applyRecall r
    else s
  | [] => s

/-- The noted recall of an entry. -/
def TxnEntry.noted? : TxnEntry → Option RecallRecord
  | .issued t => t.noted
  | _ => none

/-- The deferred recall of a pin record. -/
def Pin.deferred? (p : Pin) : Option RecallRecord :=
  match p.st with
  | .active _ _ r => r
  | .waiting _ => none

/-- The noted recalls, in ascending order of tags (R109). -/
def State.notedRecalls (s : State) : List RecallRecord := s.txns.toList.filterMap TxnEntry.noted?

/-- The deferred recalls, in ascending order of pin record indices (R109). -/
def State.deferredRecalls (s : State) : List RecallRecord :=
  s.pins.toList.filterMap fun p => p.bind Pin.deferred?

/-- The unacknowledged recalls: queued, noted and deferred (R92). -/
def State.unacknowledged (s : State) : List RecallRecord :=
  s.recallQueue ++ s.notedRecalls ++ s.deferredRecalls

/-- A recall packet of 10 bytes or more is examined by the arrival checks of R93, in their order. -/
def State.checkRecall (s : State) (p : Packet) : State :=
  let id := recallIdOf p
  let line := recallLineOf p
  if 8 ≤ s.recallCount then s.raiseFarProtocolRecall id line
  else match recallKindOf (byteAt p 0) with
    | none => (s.sendAck id .refused).raiseFarProtocolRecall id line
    | some kind =>
      if line.toNat % 64 ≠ 0 then (s.sendAck id .refused).raiseFarProtocolRecall id line
      else if s.unacknowledged.any fun r => r.line == line then
        (s.sendAck id .refused).raiseFarProtocolRecall id line
      else { s with recallQueue := s.recallQueue ++ [{ id := id, line := line, kind := kind }]
                    recallCount := s.recallCount + 1 }

/-- The recall unit examines an arrived recall: one shorter than its 10-byte header is discarded with
FAR_PROTOCOL before the checks of R93 (R180). -/
def State.examineRecall (s : State) (p : Packet) : State :=
  if p.length < 10 then s.raiseFarProtocolRecall (recallIdOf p) (recallLineOf p) else s.checkRecall p

/-- The packets on the recall channel are examined in channel order (R62, R93; log 7). -/
def State.examineRecalls (s : State) : State :=
  s.recallCh.foldl State.examineRecall { s with recallCh := [] }

/-! ### The steps -/

/-- RECALL_ARRIVAL (R93): the packet arrives on the recall channel and is examined. No recall arrives while
the far link is DOWN (R90; log 9). -/
def execRecallArrival (p : Packet) (s : State) : Host.Outcome State Fault Refusal :=
  .next (if s.farLink = .up then { s with recallCh := s.recallCh ++ [p] }.examineRecalls else s)

/-- DOWNGRADE (R94): the recall at the head of the queue, a DOWNGRADE, is taken. -/
def execDowngrade (s : State) : Host.Outcome State Fault Refusal := .next (s.takeRecall .downgrade)

/-- SURRENDER (R94): the recall at the head of the queue, a SURRENDER, is taken. -/
def execSurrender (s : State) : Host.Outcome State Fault Refusal := .next (s.takeRecall .surrender)

end Sys2Proof.Machine
end

