-- ==== Sys2Proof/Machine/Pins.lean ====
section
/-! DEFINITION. The pin table (06): reservation, activation, the unlock, the end of a pin and its timer. -/

namespace Sys2Proof.Machine

/-- A requester holds a record, WAITING or ACTIVE (R113, condition 1). -/
def State.hasPin (s : State) (r : Requester) : Bool :=
  (lowest s.pins fun p => p.any fun v => v.owner == r).isSome

/-- A pin record, WAITING or ACTIVE, names the line (R30). -/
def State.linePinned (s : State) (line : Addr) : Bool :=
  (lowest s.pins fun p => p.any fun v => v.line == line).isSome

/-- An ACTIVE pin on the line belongs to another requester (R42, condition 2). -/
def State.foreignPin (s : State) (r : Requester) (line : Addr) : Bool :=
  (lowest s.pins fun p => p.any fun v => v.isActive && v.line == line && v.owner != r).isSome

/-- A WAITING record is reserved, with no set and way yet (R113, condition 3). -/
def State.reservePin (s : State) (i : Fin 4) (r : Requester) (line : Addr) : State :=
  s.putPin i (some { owner := r, line := line, st := .waiting none })

/-- The pin becomes ACTIVE on the way: deadline now plus the pin timeout, the way moves to the front, the
LOCK_READ is answered OK with the bytes of its byte range (R115). -/
def State.activatePin (s : State) (i : Fin 4) (loc : Loc) (w : Waiter) (data : LineData) (len : Nat) :
    State :=
  let p : Option Pin := (s.pins[i]).map fun p =>
    { p with st := .active loc (s.now + s.config.pinTimeout) none }
  ((s.putPin i p).touch loc).answerWaiter w .ok (lineBytes data w.offset len)

/-- An ACTIVE record is freed and its deferred recall, if any, is applied to the line (R102). -/
def State.endPin (s : State) (i : Fin 4) (deferred : Option RecallRecord) : State :=
  (s.putPin i none).applyHeldRecall deferred

/-- The line state after a write: M where any mask bit is set, as it was otherwise (R119). -/
def unlockedState (st : CopyState) (mask : List Bool) : CopyState := if mask.any id then .m else st

/-- The UNLOCK_WRITE on its requester's ACTIVE record (R119): the masked bytes are written, the record is
freed, the answer is OK, the deferred recall is applied. -/
def State.performUnlock (s : State) (q : Request) (i : Fin 4) (mask : List Bool) (bytes : List Byte) :
    State :=
  match s.pins[i] with
  | some p =>
    match p.st with
    | .active loc _ deferred =>
      let s1 := match s.wayAt loc with
        | .copy st line data =>
          s.putWay loc (.copy (unlockedState st mask) line (writeBytes data (offsetOf q.addr) mask bytes))
        | _ => s
      ((s1.putPin i none).answer q .ok).applyHeldRecall deferred
    | .waiting _ => s
  | none => s

/-- Step 6 for an UNLOCK_WRITE (R118): performed on its requester's ACTIVE record, else LOCK_BROKEN. -/
def State.unlockStep (s : State) (q : Request) (mask : List Bool) (bytes : List Byte) : State :=
  match s.ownPin q.requester (lineOf q.addr) with
  | some i => s.performUnlock q i mask bytes
  | none => s.answer q .lockBroken

/-- The expiry of a pin whose deadline is reached (R120): the record is freed, its deferred recall applied,
PIN_EXPIRED raised. -/
def State.expirePin (s : State) (i : Fin 4) : State :=
  match s.pins[i] with
  | some p =>
    match p.st with
    | .active _ deadline deferred =>
      if deadline ≤ s.now then
        (s.endPin i deferred).raise .pinExpired { requester := some p.owner, addr := some p.line }
      else s
    | .waiting _ => s
  | none => s

/-- PIN_EXPIRY (R120): the ACTIVE record's deadline is reached (R183; log 17). -/
def execPinExpiry (i : Fin 4) (s : State) : Host.Outcome State Fault Refusal := .next (s.expirePin i)

end Sys2Proof.Machine
end

