-- ==== Sys2Proof/Machine/Directory.lean ====
section
/-! DEFINITION. Requests at the directory, step 7 of admission (03): hits, waiter lists, upgrades and misses. -/

namespace Sys2Proof.Machine

/-- A WRITE or LOCAL ATOMIC of the requester waits in the list (R43). -/
def writeWaits (r : Requester) (ws : List Waiter) : Bool :=
  ws.any fun w => w.requester == r && match w.access with
    | .write _ _ _ => true
    | .atomic _ => true
    | _ => false

/-- A request joins the waiter list of the entry that names its line's way, or is answered RETRY when 8
wait already (R47). A way without such an entry breaks R38; RETRY there (log 15). -/
def State.joinList (s : State) (w : Waiter) (loc : Loc) : State :=
  match s.fetchOf loc with
  | some (tag, t) =>
    if 8 ≤ t.waiters.length then s.refuse w
    else (s.putEntry tag (.issued { t with waiters := t.waiters ++ [w] })).recordWay w loc
  | none => s.refuse w

/-- An UPGRADE is issued from S with the request as its first waiter, or RETRY without a FREE entry (R48). -/
def State.issueUpgrade (s : State) (w : Waiter) (loc : Loc) (line : Addr) (data : LineData) : State :=
  match s.freeTag with
  | some tag =>
    ((s.putWay loc (.copy .upgrade line data)).issue tag (.upgrade line loc false) [w] none .request
      (.upgrade tag line)).recordWay w loc
  | none => s.refuse w

/-- A READ, WRITE, ATOMIC or LOCK_READ performed on a way that holds valid data, as a hit of R43 to R46 and
as a waiter of R70 to R72. A WRITE or ATOMIC leaves the line M; a LOCK_READ activates its pin. -/
def State.perform (s : State) (w : Waiter) (loc : Loc) (line : Addr) (data : LineData) :
    State :=
  match w.access with
  | .read len => s.answerWaiter w .ok (lineBytes data w.offset len)
  | .write _ mask bytes =>
    (s.putWay loc (.copy .m line (writeBytes data w.offset mask bytes))).answerWaiter w .ok
  | .atomic op =>
    let old := quantityAt data w.offset
    (s.putWay loc (.copy .m line (writeQuantity data w.offset (op.apply old)))).answerWaiter w .ok
      (leBytes 8 old.toNat)
  | .lockRead len i => s.activatePin i loc w data len

/-- The access is a READ. -/
def Access.isRead : Access → Bool
  | .read _ => true
  | _ => false

/-- A request that finds its line resident (condition 5 of R42), by its kind and the line state (R43 to
R46). -/
def State.resident (s : State) (w : Waiter) (loc : Loc) : State :=
  match s.wayAt loc with
  | .i => s
  | .fill _ => s.joinList w loc
  | .copy st line data =>
    match w.access.isRead, st with
    | true, .upgrade =>
      if ((s.fetchOf loc).map fun e => writeWaits w.requester e.2.waiters).getD false
      then s.joinList w loc
      else (s.touch loc).perform w loc line data
    | true, _ => (s.touch loc).perform w loc line data
    | false, .x => (s.touch loc).perform w loc line data
    | false, .m => (s.touch loc).perform w loc line data
    | false, .s => s.issueUpgrade w loc line data
    | false, .upgrade => s.joinList w loc
    | false, .cleaning => s.refuse w

/-- The way is in I. -/
def Way.isI : Way → Bool
  | .i => true
  | _ => false

/-- The way is in S, X or M. -/
def Way.isStable : Way → Bool
  | .copy .s _ _ => true
  | .copy .x _ _ => true
  | .copy .m _ _ => true
  | _ => false

/-- The victim of a miss (R49): from the back of the LRU order list, an I way first, then an S, X or M way
that is not pinned. -/
def State.victim (s : State) (set : Fin 1024) : Option Loc :=
  let d := readSet s.dir set
  let back := d.lru.reverse
  match back.find? fun v => d.ways[v].isI with
  | some v => some { set := set, way := v }
  | none =>
    (back.find? fun v => d.ways[v].isStable && !s.pinned { set := set, way := v }).map
      fun v => { set := set, way := v }

/-- The fetch that a miss issues, by its kind: FETCH_S for a READ, FETCH_X for the others (3.6). -/
def State.fetch (s : State) (w : Waiter) (line : Addr) (loc : Loc) (tag : Tag) : State :=
  if w.access.isRead then s.issue tag (.fetchS line loc) [w] none .request (.fetchS tag line)
  else s.issue tag (.fetchX line loc) [w] none .request (.fetchX tag line)

/-- The way is allocated to the missing line and the fetch is issued (R51, steps 3 and 4). -/
def State.allocate (s : State) (w : Waiter) (line : Addr) (loc : Loc) (tag : Tag) : State :=
  (((s.putWay loc (.fill line)).touch loc).fetch w line loc tag).recordWay w loc

/-- A miss (R49 to R51): the victim and the resources, or RETRY with nothing changed. -/
def State.miss (s : State) (w : Waiter) (line : Addr) : State :=
  match s.victim (setIndex line) with
  | none => s.refuse w
  | some loc =>
    match s.wayAt loc with
    | .copy .m old data =>
      match s.freeSlot, s.freeTag with
      | some slot, some tag =>
        let s1 := s.evict loc old data slot tag .victim .request
        match s1.freeTag with
        | some tag2 => s1.allocate w line loc tag2
        | none => s.refuse w
      | _, _ => s.refuse w
    | _ =>
      match s.freeTag with
      | some tag => s.allocate w line loc tag
      | none => s.refuse w

/-- The way holds its line in S or CLEANING (condition 4 of R42). -/
def Way.isCleanCopy : Way → Bool
  | .copy .s _ _ => true
  | .copy .cleaning _ _ => true
  | _ => false

/-- Step 7 for a request that the cache handles: the conditions of R42 in their order. -/
def State.directory (s : State) (w : Waiter) (line : Addr) : State :=
  if s.inEvictionBuffer line then s.refuse w
  else if s.foreignPin w.requester line then s.refuse w
  else match s.lookup line with
    | none => if s.writebackPending line then s.refuse w else s.miss w line
    | some loc =>
      if s.writebackPending line && (s.wayAt loc).isCleanCopy && !w.access.isRead then s.refuse w
      else s.resident w loc

end Sys2Proof.Machine
end

