-- ==== Sys2Proof/Machine/Watch.lean ====
section
/-! DEFINITION. The watch unit (07): matching and counting, the capture queue and the hold slots. -/

namespace Sys2Proof.Machine

/-- The bit of a request kind among the access kinds: LOCK_READ and UNLOCK_WRITE both count as LOCK (R128,
R181). -/
def RequestKind.watchBit : RequestKind → Nat
  | .read => 0
  | .write => 1
  | .lockRead => 2
  | .unlockWrite => 2
  | .atomic => 3

/-- The request's byte range and the entry's region have a byte in common (R131). -/
def WatchEntry.overlaps (e : WatchEntry) (addr : Addr) (len : Nat) : Bool :=
  decide (addr.toNat < e.base.toNat + 2 ^ e.exponent) && decide (e.base.toNat < addr.toNat + len)

/-- A watch entry matches a request (R131). -/
def WatchEntry.matches (e : WatchEntry) (q : Request) : Bool :=
  e.enable && e.overlaps q.addr q.body.len && e.kinds.getLsbD q.body.kind.watchBit
    && e.mask.getLsbD q.requester.val

/-- The hit count rises by one and stays at 2^32 - 1 (R131). -/
def WatchEntry.hit (e : WatchEntry) : WatchEntry :=
  { e with hits := if 4294967295 ≤ e.hits then e.hits else e.hits + 1 }

/-- The indices of the matching entries, ascending (R131). -/
def State.matching (s : State) (q : Request) : List (Fin 8) :=
  (List.finRange 8).filter fun i => s.watch[i].matches q

/-- A matching entry has the action. -/
def State.matchesWith (s : State) (q : Request) (a : WatchAction) : Bool :=
  (List.finRange 8).any fun i => s.watch[i].matches q && s.watch[i].action == a

/-- Every matching entry's hit count rises (R131). -/
def State.countHits (s : State) (q : Request) : State :=
  { s with watch := mapTable (fun e => if e.matches q then e.hit else e) s.watch }

/-- The capture of a request (R133): a record at the tail with the next sequence number, or CAPTURE_FULL
when 16 records are queued. -/
def State.captureRequest (s : State) (q : Request) (matched : List (Fin 8)) (slot : Option (Fin 4)) : State :=
  if s.captures.length < 16 then
    let c : Capture :=
      { sequence := s.nextSeq, requester := q.requester, id := q.id, kind := q.body.kind, addr := q.addr,
        len := q.body.len, matched := matched, heldSlot := slot }
    { s with captures := s.captures ++ [c], nextSeq := s.nextSeq + 1 }
  else
    s.raise .captureFull { requester := some q.requester, requestId := some q.id, kind := some q.body.kind,
                           addr := some q.addr }

/-- The free hold slot of lowest index (R135). -/
def State.freeHold (s : State) : Option (Fin 4) := lowest s.holds Option.isNone

/-- The request is placed in the slot and HOLD is raised (R135). -/
def State.holdRequest (s : State) (q : Request) (slot : Fin 4) : State :=
  { s with holds := upd s.holds slot (some q) }.raise .hold
    { requester := some q.requester, addr := some q.addr, slot := some slot }

/-- What the watch check leaves the request path to do (R135): let the request go on, or go on to the
next ingress entry, the request being held or answered. -/
inductive WatchOutcome where
  | pass (s : State)
  | stopped (s : State)

/-- The watch check (R131, R133, R135): counts, then the capture, then the hold. -/
def State.watchCheck (s : State) (q : Request) : WatchOutcome :=
  let s1 := s.countHits q
  let matched := s.matching q
  if s.matchesWith q .hold then
    match s.freeHold with
    | some slot => .stopped ((s1.captureRequest q matched (some slot)).holdRequest q slot)
    | none => .stopped ((s1.captureRequest q matched none).answer q .retry)
  else if s.matchesWith q .capture then .pass (s1.captureRequest q matched none)
  else .pass s1

/-- A hold slot holds a request of the requester to the line (R12). -/
def State.heldOnLine (s : State) (r : Requester) (line : Addr) : Bool :=
  (lowest s.holds fun h => h.any fun q => q.requester == r && lineOf q.addr == line).isSome

end Sys2Proof.Machine
end

