-- ==== Sys2Proof/Machine/Windows.lean ====
section
/-! DEFINITION. The window table (02): lookup, rights, the window check and copy removal. -/

namespace Sys2Proof.Machine

/-- The policy, atomic mode and rights that a request is given (R21, R22). -/
structure Treatment where
  policy     : Policy
  atomicMode : AtomicMode
  readMask   : RequesterSet
  writeMask  : RequesterSet
deriving DecidableEq, Repr

/-- The entry contains the byte address (R19). -/
def WindowEntry.contains (e : WindowEntry) (a : Addr) : Bool :=
  e.valid && decide (e.base.toNat ≤ a.toNat) && decide (a.toNat < e.base.toNat + 2 ^ e.exponent)

/-- What a window entry gives. -/
def WindowEntry.treatment (e : WindowEntry) : Treatment :=
  { policy := e.policy, atomicMode := e.atomicMode, readMask := e.readMask, writeMask := e.writeMask }

/-- The policy of the default window (R22). -/
def DefaultPolicy.policy : DefaultPolicy → Policy
  | .uc => .uc
  | .deny => .deny

/-- What the default window gives (R22): the default policy, HOME, every requester. -/
def ConfigRecord.defaultWindow (c : ConfigRecord) : Treatment :=
  { policy := c.defaultPolicy.policy, atomicMode := .atHome, readMask := BitVec.allOnes 16,
    writeMask := BitVec.allOnes 16 }

/-- The window lookup (R21): the first entry, from index 0 upward, that contains the address, else the
default window. -/
def State.treatmentOf (s : State) (a : Addr) : Treatment :=
  match s.windows.toList.find? fun e => e.contains a with
  | some e => e.treatment
  | none => s.config.defaultWindow

/-- The requester holds the right that the request's kind needs (R23). -/
def Treatment.permits (t : Treatment) (q : Request) : Bool :=
  match q.body with
  | .read _ => t.readMask.getLsbD q.requester.val
  | _ => t.writeMask.getLsbD q.requester.val

/-- Copy removal is made for the request (R30). -/
def Treatment.removesCopy (t : Treatment) (b : RequestBody) : Bool :=
  match t.policy, b with
  | .uc, .read _ => true
  | .uc, .write _ _ _ => true
  | .uc, .atomic _ => true
  | .rc, .write _ _ _ => true
  | .rc, .atomic _ => true
  | .wb, .atomic _ => t.atomicMode == .atHome
  | _, _ => false

/-- The way's line is busy: FILL, UPGRADE or CLEANING (R31). -/
def Way.isBusy : Way → Bool
  | .fill _ => true
  | .copy .upgrade _ _ => true
  | .copy .cleaning _ _ => true
  | _ => false

/-- The waiter record of a request that goes home uncached or atomic (R60, R65). -/
def Request.uncachedWaiter (q : Request) : Option Waiter :=
  match q.body with
  | .read len =>
    some { requester := q.requester, id := q.id, offset := offsetOf q.addr, access := .read len }
  | .write len mask data =>
    some { requester := q.requester, id := q.id, offset := offsetOf q.addr, access := .write len mask data }
  | .atomic op =>
    some { requester := q.requester, id := q.id, offset := offsetOf q.addr, access := .atomic op }
  | _ => none

/-- Step 7 for a request that passed copy removal (R28, R29, R65): UC_READ, UC_WRITE or FAR_ATOMIC under
the tag. -/
def State.issueUncached (s : State) (q : Request) (w : Waiter) (tag : Tag) : State :=
  match w.access with
  | .read len => s.issue tag (.ucRead q.addr len) [w] none .request (.ucRead tag q.addr len)
  | .write len mask data =>
    s.issue tag (.ucWrite q.addr len) [w] none .request (.ucWrite tag q.addr len mask data)
  | .atomic op => s.issue tag (.farAtomic q.addr) [w] none .request (.farAtomic tag q.addr op)
  | .lockRead _ _ => s

/-- Copy removal and, where it lets the request continue, the issue of its far request (R31, R32). -/
def State.removeCopy (s : State) (q : Request) (w : Waiter) : State :=
  let line := lineOf q.addr
  if s.linePinned line then s.answer q .retry
  else match s.lookup line with
    | some loc =>
      match s.wayAt loc with
      | .copy .m old data =>
        if s.writebackPending line || s.inEvictionBuffer line then s.answer q .retry
        else match s.freeSlot, s.freeTag with
          | some slot, some tag => (s.evict loc old data slot tag .stale .request).answer q .retry
          | _, _ => s.answer q .retry
      | way =>
        if way.isBusy then s.answer q .retry
        else if s.writebackPending line || s.inEvictionBuffer line then s.answer q .retry
        else match s.freeTag with
          | some tag => (s.putWay loc .i).issueUncached q w tag
          | none => s.answer q .retry
    | none =>
      if s.inEvictionBuffer line || s.writebackPending line then s.answer q .retry
      else match s.freeTag with
        | some tag => s.issueUncached q w tag
        | none => s.answer q .retry

/-- The request in the form of step 7, for the kinds that need no pin record. -/
def State.toDirectory (s : State) (q : Request) (access : Access) : State :=
  s.directory { requester := q.requester, id := q.id, offset := offsetOf q.addr, access := access }
    (lineOf q.addr)

/-- Step 6 for a LOCK_READ (R113): NESTED_LOCK, RETRY, or a record reserved and on to step 7. -/
def State.lockStep (s : State) (q : Request) (len : Nat) : State :=
  if s.hasPin q.requester then s.answer q .nestedLock
  else match s.freePinRecord with
    | none => s.answer q .retry
    | some i => (s.reservePin i q.requester (lineOf q.addr)).toDirectory q (.lockRead len i)

/-- The request passes the window check to steps 6 and 7 without copy removal (R24, condition 7). -/
def State.pastWindow (s : State) (q : Request) : State :=
  match q.body with
  | .read len => s.toDirectory q (.read len)
  | .write len mask data => s.toDirectory q (.write len mask data)
  | .atomic op => s.toDirectory q (.atomic op)
  | .lockRead len => s.lockStep q len
  | .unlockWrite _ mask data => s.unlockStep q mask data

/-- The request is a LOCK_READ. -/
def RequestBody.isLockRead : RequestBody → Bool
  | .lockRead _ => true
  | _ => false

/-- The request is an UNLOCK_WRITE that an ACTIVE pin of its requester on its line exempts (R25). -/
def State.exempt (s : State) (q : Request) : Bool :=
  match q.body with
  | .unlockWrite _ _ _ => (s.ownPin q.requester (lineOf q.addr)).isSome
  | _ => false

/-- The window check and what follows it: the conditions of R24 in their order. -/
def State.windowCheck (s : State) (q : Request) : State :=
  let t := s.treatmentOf q.addr
  if s.exempt q then s.pastWindow q
  else if t.policy = .deny then s.answer q .denied
  else if !t.permits q then s.answer q .denied
  else if q.body.isLockRead && t.policy != .wb then s.answer q .policy
  else if t.removesCopy q.body then
    match q.uncachedWaiter with
    | some w => s.removeCopy q w
    | none => s
  else s.pastWindow q

end Sys2Proof.Machine
end

