-- ==== Sys2Proof/Machine/Admission.lean ====
section
/-! DEFINITION. The request path (01): arrival, admission of the five memory requests, requests of unknown
kind. -/

namespace Sys2Proof.Machine

/-- Admission from the mode check onward (R13, R14). -/
def State.admitFromMode (s : State) (q : Request) : State :=
  match s.mode with
  | .isolated => s.answer q .isolated
  | .operating => s.windowCheck q

/-- Admission from the held-request ordering check onward (R9, R12). -/
def State.admitRequest (s : State) (q : Request) : State :=
  if s.heldOnLine q.requester (lineOf q.addr) then s.answer q .retry
  else match s.watchCheck q with
    | .pass s1 => s1.admitFromMode q
    | .stopped s1 => s1

/-- A packet that fails the form check of a memory request, or is of unknown kind, is answered MALFORMED
with its kind as it arrived (R3, R10). -/
def State.answerPacket (s : State) (p : Packet) (status : RespStatus) : State :=
  s.emit (.response (senderOf p) (requestIdOf p) (kindByte p) status [])

/-- The form check of a taken memory request, and its admission (R10). -/
def State.admitPacket (s : State) (p : Packet) : State :=
  match parseRequest p with
  | some q => s.admitRequest q
  | none => s.answerPacket p .malformed

/-- The oldest ingress request is of the kind; it is taken and admitted whole (R9). -/
def State.takeRequest (s : State) (kind : RequestKind) : State :=
  match s.ingress with
  | p :: rest => if kindByte p = kind.code then (s.takeHead p rest).admitPacket p else s
  | [] => s

/-! ### The steps -/

/-- PACKET_ARRIVAL (R6, R7): discarded when the requester has no credit, else the count falls by one and the
packet joins the ingress queue. No packet arrives while the near link is DOWN (R175; log 9). -/
def execPacketArrival (p : Packet) (s : State) : Host.Outcome State Fault Refusal :=
  let r := senderOf p
  .next (if s.nearLink = .up ∧ 0 < s.credits[r] then
    { s with ingress := s.ingress ++ [p], credits := upd s.credits r (s.credits[r] - 1) } else s)

/-- READ (R43). -/
def execRead (s : State) : Host.Outcome State Fault Refusal := .next (s.takeRequest .read)

/-- WRITE (R44). -/
def execWrite (s : State) : Host.Outcome State Fault Refusal := .next (s.takeRequest .write)

/-- LOCK_READ (R46, R113). -/
def execLockRead (s : State) : Host.Outcome State Fault Refusal := .next (s.takeRequest .lockRead)

/-- UNLOCK_WRITE (R118, R119). -/
def execUnlockWrite (s : State) : Host.Outcome State Fault Refusal := .next (s.takeRequest .unlockWrite)

/-- ATOMIC (R124). -/
def execAtomic (s : State) : Host.Outcome State Fault Refusal := .next (s.takeRequest .atomic)

/-- UNKNOWN_KIND_REQUEST (R10): its credit is returned and it is answered MALFORMED, echoing its kind. -/
def execUnknownKindRequest (s : State) : Host.Outcome State Fault Refusal :=
  match s.ingress with
  | p :: rest =>
    if unknownKind (kindByte p) then .next ((s.takeHead p rest).answerPacket p .malformed) else .next s
  | [] => .next s

end Sys2Proof.Machine
end

