-- ==== Sys2Proof/Machine/Drains.lean ====
section
/-! DEFINITION. The drain engine (08): visits, reports, completion and the end of a drain. -/

namespace Sys2Proof.Machine

/-- What a DRAIN reply carries (R146). -/
def Drain.report (d : Drain) : DrainReport :=
  { mode := d.mode, writtenBack := d.writtenBack, invalidated := d.invalidated,
    skippedPinned := d.skippedPinned, failed := d.failed, cursorSet := d.cursorSet, cursorWay := d.cursorWay }

/-- The command code of DRAIN (R178). -/
def drainCode : Byte := 6

/-- The reply to the pending DRAIN command, where one is pending (R146, R149). -/
def State.replyDrain (s : State) (status : MgmtStatus) : State :=
  match s.drain.pendingReply with
  | some (r, id) => s.emit (.mgmtReply r id drainCode status (.drain s.drain.report))
  | none => s

/-- The drain completes (R146): its reply, ABORTED where aborted is set, then IDLE. -/
def State.completeDrain (s : State) : State :=
  let s1 := s.replyDrain (if s.drain.aborted then .aborted else .ok)
  { s1 with drain := { s1.drain with st := .idle, waiting := false, aborted := false, pendingReply := none } }

/-- The end of a scan or an abort (R142, R147): FINISHING while write-backs are outstanding, else the drain
completes at once. -/
def State.endScan (s : State) : State :=
  if 0 < s.drain.outstanding then { s with drain := { s.drain with st := .finishing } } else s.completeDrain

/-- A traffic reset or far link loss ends a running drain (R149). -/
def State.stopDrain (s : State) (status : MgmtStatus) : State :=
  match s.drain.st with
  | .idle => s
  | _ =>
    let s1 := s.replyDrain status
    { s1 with drain := { s1.drain with st := .idle, waiting := false, aborted := false, outstanding := 0,
                                       pendingReply := none } }

/-- The cursor advances one way, and past set 1023 way 3 the scan ends within the same event (R142). -/
def State.advanceCursor (s : State) : State :=
  let d := s.drain
  if d.cursorWay.val < 3 then
    { s with drain := { d with cursorWay := d.cursorWay + 1 } }
  else
    let s1 := { s with drain := { d with cursorSet := d.cursorSet + 1, cursorWay := 0 } }
    if d.cursorSet + 1 < 1024 then s1 else s1.endScan

/-- The visit needs resources it cannot have: waiting is set and the cursor stays (R145). -/
def State.waitAtWay (s : State) : State := { s with drain := { s.drain with waiting := true } }

/-- One more write-back of this drain is outstanding. -/
def State.countOutstanding (s : State) : State :=
  { s with drain := { s.drain with outstanding := s.drain.outstanding + 1 } }

/-- A visit in mode KEEP that finds M (R143): WRITEBACK KEEP, the line CLEANING; or waiting. -/
def State.visitKeep (s : State) (loc : Loc) (line : Addr) (data : LineData) : State :=
  match s.freeTag with
  | some tag =>
    (((s.putWay loc (.copy .cleaning line data)).issue tag (.writebackKeep line loc) [] none .drain
      (.writeback tag line .keep data)).countOutstanding).advanceCursor
  | none => s.waitAtWay

/-- A visit in mode DROP that finds M (R144): the line goes home through the eviction buffer; or waiting. -/
def State.visitDrop (s : State) (loc : Loc) (line : Addr) (data : LineData) : State :=
  match s.freeSlot, s.freeTag with
  | some slot, some tag => ((s.evict loc line data slot tag .drain .drain).countOutstanding).advanceCursor
  | _, _ => s.waitAtWay

/-- A visit in mode DROP that finds S or X (R144): the way becomes I and is counted. -/
def State.visitClean (s : State) (loc : Loc) : State :=
  let s1 := s.putWay loc .i
  { s1 with drain := { s1.drain with invalidated := s1.drain.invalidated + 1 } }.advanceCursor

/-- A visit that passes over a way for its ACTIVE pin (R143, R144). -/
def State.visitPinned (s : State) : State :=
  { s with drain := { s.drain with skippedPinned := s.drain.skippedPinned + 1 } }.advanceCursor

/-- One visit of the way at the cursor (R142 to R144). -/
def State.visitWay (s : State) (loc : Loc) : State :=
  if (s.activePinAt loc).isSome then s.visitPinned
  else match s.drain.mode, s.wayAt loc with
    | .keep, .copy .m line data => s.visitKeep loc line data
    | .drop, .copy .m line data => s.visitDrop loc line data
    | .drop, .copy .s _ _ => s.visitClean loc
    | .drop, .copy .x _ _ => s.visitClean loc
    | _, _ => s.advanceCursor

/-- The engine visits in SCANNING with waiting clear (R142). -/
def State.visit (s : State) : State :=
  if s.drain.st = .scanning ∧ s.drain.waiting = false then
    if h : s.drain.cursorSet < 1024 then s.visitWay { set := ⟨s.drain.cursorSet, h⟩, way := s.drain.cursorWay }
    else s
  else s

/-- The end of a write-back of origin DRAIN is reported (R87, R146); in FINISHING the last report completes
the drain. -/
def State.reportDrain (s : State) (written : Bool) : State :=
  let d := s.drain
  let d1 : Drain := { d with writtenBack := if written then d.writtenBack + 1 else d.writtenBack
                             failed := if written then d.failed else d.failed + 1
                             outstanding := d.outstanding - 1 }
  let s1 := { s with drain := d1 }
  if d1.st = .finishing ∧ d1.outstanding = 0 then s1.completeDrain else s1

/-- DRAIN_VISIT (R142). -/
def execDrainVisit (s : State) : Host.Outcome State Fault Refusal := .next s.visit

end Sys2Proof.Machine
end

