-- ==== Sys2Proof/Machine/Transactions.lean ====
section
/-! DEFINITION. The transaction table (04): taking a response, grants and the walk, completions, FAIL and the
far timeout. -/

namespace Sys2Proof.Machine

/-! ### The walk (R69 to R75) -/

/-- One waiter of the walk against the line as the install and the earlier waiters left it (R70 to R73):
`none` where the walk stops, else the state and the owner of a pin that the walk has activated. -/
def State.walkOne (s : State) (loc : Loc) (owner : Option Requester) (w : Waiter) :
    Option (State × Option Requester) :=
  if owner.any fun o => o != w.requester then some (s.refuse w, owner)
  else match s.wayAt loc with
    | .copy st line data =>
      match w.access with
      | .read _ => some (s.perform w loc line data, owner)
      | .lockRead _ _ => if st = .x ∨ st = .m then some (s.perform w loc line data, some w.requester) else none
      | _ => if st = .x ∨ st = .m then some (s.perform w loc line data, owner) else none
    | _ => none

/-- The walk takes the waiters from the head of the list in order (R69): the state it leaves, and the
waiters from the one at which it stopped, none where it ended. -/
def State.walk (loc : Loc) : List Waiter → Option Requester → State → State × List Waiter
  | [], _, s => (s, [])
  | w :: ws, owner, s =>
    match s.walkOne loc owner w with
    | some (s1, owner1) => State.walk loc ws owner1 s1
    | none => (s, w :: ws)

/-- The walk stops at a waiter that needs the line exclusive (R74): the line is UPGRADE with its data, and an
UPGRADE is issued under the same tag for the waiters that are left. -/
def State.stopWalk (s : State) (tag : Tag) (t : Txn) (line : Addr) (loc : Loc) (left : List Waiter) : State :=
  let s1 := match s.wayAt loc with
    | .copy _ l data => s.putWay loc (.copy .upgrade l data)
    | _ => s
  s1.issue tag (.upgrade line loc false) left none t.origin (.upgrade tag line)

/-- A grant's walk and what follows it (R69 to R75): the entry becomes FREE or continues as an UPGRADE, and
then a noted recall is handed to the recall unit. -/
def State.walkAndFinish (s : State) (tag : Tag) (t : Txn) (line : Addr) (loc : Loc) : State :=
  match State.walk loc t.waiters none s with
  | (s1, []) => (s1.releaseTag tag).applyHeldRecall t.noted
  | (s1, left) => (s1.stopWalk tag t line loc left).applyHeldRecall t.noted

/-- The install of granted data (R52): the way holds the line in the granted state and moves to the front. -/
def State.install (s : State) (loc : Loc) (st : CopyState) (line : Addr) (data : LineData) : State :=
  (s.putWay loc (.copy st line data)).touch loc

/-! ### Taking a response (R67, R68) -/

/-- The payload length fits where the response kind carries no payload (R68, R177). Against FETCH_S, FETCH_X,
UPGRADE and UC_READ, R68 gives a length only with GRANT_S_DATA, GRANT_X_DATA and UC_DATA, so that the bytes
behind a GRANT_X or FAIL are ignored. In the other rows no payload fits. A FAIL to a FAR_ATOMIC fits with 8 bytes
too, the length of its row, which R177 has ignored where it is compared with ATOMIC_RESULT alone. Any other surplus
bytes fit as the free value of Config says (log 10). -/
def surplusFits (k : TxnKind) (code : Byte) (payload : List Byte) : Bool :=
  match k with
  | .fetchS _ _ => true
  | .fetchX _ _ => true
  | .upgrade _ _ _ => true
  | .ucRead _ _ => true
  | .farAtomic _ =>
    payload.isEmpty || (code == 8 && payload.length == 8) || Config.surplusPayloadFits k.code code
  | _ => payload.isEmpty || Config.surplusPayloadFits k.code code

/-- A response packet's kind code, a header of 4 bytes being there (R180). -/
def hasResponseKind (p : Packet) (code : Byte) : Bool := decide (4 ≤ p.length) && respKindByte p == code

/-- A response of unknown kind: a header of 4 bytes and a code of 0 or above 8 (R180). -/
def unknownResponseKind (p : Packet) : Bool :=
  decide (4 ≤ p.length) && (respKindByte p == 0 || decide (8 < (respKindByte p).toNat))

/-- The tag of a tag byte; a byte from 32 to 255 names no entry (R180). -/
def tagOf (b : Byte) : Option Tag := if h : b.toNat < 32 then some ⟨b.toNat, h⟩ else none

/-- Conditions 1 to 3 of R67, in their order, and then the response applied: discarded with FAR_PROTOCOL at
a FREE tag or a tag that names no entry, discarded freeing an ORPHANED tag, discarded with FAR_PROTOCOL where
it does not fit. `apply` answers none where the response does not fit the entry. -/
def State.respond (s : State) (p : Packet) (apply : State → Tag → Txn → List Byte → Option State) : State :=
  match tagOf (respTagByte p) with
  | none => s.raiseFarProtocolTag (respTagByte p)
  | some tag =>
    match s.txns[tag] with
    | .free => s.raiseFarProtocolTag (respTagByte p)
    | .orphaned => s.releaseTag tag
    | .issued t =>
      match apply s tag t (respPayload p) with
      | some s1 => s1
      | none => s.raiseFarProtocolTag (respTagByte p)

/-- The oldest response is of the wanted kind; it is taken whole (R62, R67). -/
def State.takeResponse (s : State) (wanted : Packet → Bool)
    (apply : State → Tag → Txn → List Byte → Option State) : State :=
  match s.respCh with
  | p :: rest => if wanted p then { s with respCh := rest }.respond p apply else s
  | [] => s

/-! ### Grants (R70, R76, R77) -/

/-- GRANT_S_DATA fits a FETCH_S or FETCH_X with 64 bytes: installed S (R68, R70). -/
def applyGrantSData (s : State) (tag : Tag) (t : Txn) (payload : List Byte) : Option State :=
  if payload.length = 64 then
    match t.kind with
    | .fetchS line loc => some ((s.install loc .s line (lineDataOf payload)).walkAndFinish tag t line loc)
    | .fetchX line loc => some ((s.install loc .s line (lineDataOf payload)).walkAndFinish tag t line loc)
    | _ => none
  else none

/-- GRANT_X_DATA fits a FETCH_S, FETCH_X or UPGRADE with 64 bytes: installed X (R68, R70, R76). -/
def applyGrantXData (s : State) (tag : Tag) (t : Txn) (payload : List Byte) : Option State :=
  if payload.length = 64 then
    match t.kind with
    | .fetchS line loc => some ((s.install loc .x line (lineDataOf payload)).walkAndFinish tag t line loc)
    | .fetchX line loc => some ((s.install loc .x line (lineDataOf payload)).walkAndFinish tag t line loc)
    | .upgrade line loc _ => some ((s.install loc .x line (lineDataOf payload)).walkAndFinish tag t line loc)
    | _ => none
  else none

/-- GRANT_X fits an UPGRADE (R68): with copy lost clear it makes the line X with its data (R76); with copy
lost set FAR_PROTOCOL is raised and the entry reissued as FETCH_X (R77). -/
def applyGrantX (s : State) (tag : Tag) (t : Txn) (payload : List Byte) : Option State :=
  if surplusFits t.kind 3 payload then
    match t.kind with
    | .upgrade line loc true =>
      some ((s.raiseFarProtocolTag (byteOf tag.val)).issue tag (.fetchX line loc) t.waiters t.noted t.origin
        (.fetchX tag line))
    | .upgrade line loc false =>
      match s.wayAt loc with
      | .copy _ l data => some ((s.install loc .x l data).walkAndFinish tag t line loc)
      | _ => some (s.walkAndFinish tag t line loc)
    | _ => none
  else none

/-! ### The ends of entries -/

/-- The end of a WRITEBACK KEEP (R78, R81, R84): a way that still holds the entry's line in CLEANING becomes
X, or returns to M; in any other case the directory is unchanged. -/
def State.endKeep (s : State) (line : Addr) (loc : Loc) (after : CopyState) : State :=
  match s.wayAt loc with
  | .copy .cleaning l data => if l = line then s.putWay loc (.copy after l data) else s
  | _ => s

/-- The end of an entry of origin DRAIN is reported to the drain engine (R87). -/
def State.reportEnd (s : State) (t : Txn) (written : Bool) : State :=
  match t.origin with
  | .drain => s.reportDrain written
  | .request => s

/-- The effects of FAIL and of expiry on the block's lines and waiters by the entry's kind (R80 to R82,
R84): the waiters answered, a fetch's way I, an eviction buffer entry freed, a CLEANING way M again. -/
def State.abandon (s : State) (t : Txn) (status : RespStatus) : State :=
  match t.kind with
  | .fetchS _ loc => (((s.answerAll t.waiters status).putWay loc .i).dropNoted t.noted)
  | .fetchX _ loc => (((s.answerAll t.waiters status).putWay loc .i).dropNoted t.noted)
  | .upgrade _ loc _ => (((s.answerAll t.waiters status).putWay loc .i).dropNoted t.noted)
  | .writebackDrop _ slot => s.releaseSlot slot
  | .writebackKeep line loc => s.endKeep line loc .m
  | .ucRead _ _ => s.answerAll t.waiters status
  | .ucWrite _ _ => s.answerAll t.waiters status
  | .farAtomic _ => s.answerAll t.waiters status

/-- WB_DONE fits a WRITEBACK (R68, R78). -/
def applyWbDone (s : State) (tag : Tag) (t : Txn) (payload : List Byte) : Option State :=
  if surplusFits t.kind 4 payload then
    match t.kind with
    | .writebackDrop _ slot => some (((s.releaseSlot slot).releaseTag tag).reportEnd t true)
    | .writebackKeep line loc => some (((s.endKeep line loc .x).releaseTag tag).reportEnd t true)
    | _ => none
  else none

/-- The one waiter of an uncached or atomic entry is answered OK, and the entry becomes FREE (R79). -/
def State.completeUncached (s : State) (tag : Tag) (t : Txn) (data : List Byte) : State :=
  (t.waiters.foldl (fun s w => s.answerWaiter w .ok data) s).releaseTag tag

/-- UC_DATA fits a UC_READ with the entry's length (R68, R79). -/
def applyUcData (s : State) (tag : Tag) (t : Txn) (payload : List Byte) : Option State :=
  match t.kind with
  | .ucRead _ len => if payload.length = len then some (s.completeUncached tag t payload) else none
  | _ => none

/-- UC_DONE fits a UC_WRITE (R68, R79). -/
def applyUcDone (s : State) (tag : Tag) (t : Txn) (payload : List Byte) : Option State :=
  if surplusFits t.kind 6 payload then
    match t.kind with
    | .ucWrite _ _ => some (s.completeUncached tag t [])
    | _ => none
  else none

/-- ATOMIC_RESULT fits a FAR_ATOMIC with 8 bytes (R68, R79). -/
def applyAtomicResult (s : State) (tag : Tag) (t : Txn) (payload : List Byte) : Option State :=
  match t.kind with
  | .farAtomic _ => if payload.length = 8 then some (s.completeUncached tag t payload) else none
  | _ => none

/-- FAIL fits every ISSUED entry (R68; bytes behind its header as `surplusFits` says): its waiters are answered
FAR_FAIL, its resources released, the entry FREE, FAR_FAIL raised, and a DRAIN write-back reported failed (R80, R81,
R82, R87). -/
def applyFail (s : State) (tag : Tag) (t : Txn) (payload : List Byte) : Option State :=
  if surplusFits t.kind 8 payload then
    some ((((s.abandon t .farFail).releaseTag tag).raise .farFail
      { tag := some (byteOf tag.val), addr := some t.kind.target }).reportEnd t false)
  else none

/-- The expiry of an ISSUED entry whose deadline is reached (R84): as FAIL, but the waiters are answered
FAR_TIMEOUT, FAR_TIMEOUT is raised and the entry becomes ORPHANED. -/
def State.expireTxn (s : State) (tag : Tag) : State :=
  match s.txns[tag] with
  | .issued t =>
    if t.deadline ≤ s.now then
      (((s.raise .farTimeout { tag := some (byteOf tag.val), addr := some t.kind.target }).abandon t
        .farTimeout).putEntry tag .orphaned).reportEnd t false
    else s
  | _ => s

/-! ### The steps -/

/-- RESPONSE_ARRIVAL (R62): the packet waits on the response channel, in channel order. None arrives while
the far link is DOWN (log 9). -/
def execResponseArrival (p : Packet) (s : State) : Host.Outcome State Fault Refusal :=
  .next (if s.farLink = .up then { s with respCh := s.respCh ++ [p] } else s)

/-- GRANT_S_DATA (R70). -/
def execGrantSData (s : State) : Host.Outcome State Fault Refusal :=
  .next (s.takeResponse (fun p => hasResponseKind p 1) applyGrantSData)

/-- GRANT_X_DATA (R70, R76). -/
def execGrantXData (s : State) : Host.Outcome State Fault Refusal :=
  .next (s.takeResponse (fun p => hasResponseKind p 2) applyGrantXData)

/-- GRANT_X (R76, R77). -/
def execGrantX (s : State) : Host.Outcome State Fault Refusal :=
  .next (s.takeResponse (fun p => hasResponseKind p 3) applyGrantX)

/-- WB_DONE (R78). -/
def execWbDone (s : State) : Host.Outcome State Fault Refusal :=
  .next (s.takeResponse (fun p => hasResponseKind p 4) applyWbDone)

/-- UC_DATA (R79). -/
def execUcData (s : State) : Host.Outcome State Fault Refusal :=
  .next (s.takeResponse (fun p => hasResponseKind p 5) applyUcData)

/-- UC_DONE (R79). -/
def execUcDone (s : State) : Host.Outcome State Fault Refusal :=
  .next (s.takeResponse (fun p => hasResponseKind p 6) applyUcDone)

/-- ATOMIC_RESULT (R79). -/
def execAtomicResult (s : State) : Host.Outcome State Fault Refusal :=
  .next (s.takeResponse (fun p => hasResponseKind p 7) applyAtomicResult)

/-- FAIL (R80, R81, R82). -/
def execFail (s : State) : Host.Outcome State Fault Refusal :=
  .next (s.takeResponse (fun p => hasResponseKind p 8) applyFail)

/-- UNKNOWN_RESPONSE (R68): it fits no entry. -/
def execUnknownResponse (s : State) : Host.Outcome State Fault Refusal :=
  .next (s.takeResponse unknownResponseKind fun _ _ _ _ => none)

/-- SHORT_RESPONSE (R180): a response shorter than 4 bytes is discarded, FAR_PROTOCOL raised with tag 255
(log 8). -/
def execShortResponse (s : State) : Host.Outcome State Fault Refusal :=
  match s.respCh with
  | p :: rest => if p.length < 4 then .next ({ s with respCh := rest }.raiseFarProtocolTag 255) else .next s
  | [] => .next s

/-- TRANSACTION_EXPIRY (R84): the entry's deadline is reached (R183; log 17). -/
def execTransactionExpiry (tag : Tag) (s : State) : Host.Outcome State Fault Refusal :=
  .next (s.expireTxn tag)

end Sys2Proof.Machine
end

