-- ==== Sys2Proof/Machine/Links.lean ====
section
/-! DEFINITION. The events that abandon traffic in bulk (10), link reports, departures, notice delivery (R15,
R18) and cold reset (R176). -/

namespace Sys2Proof.Machine

/-! ### Pieces of the bulk events -/

/-- A set with every way I, its LRU order list kept (R56). -/
def DirSet.clear (d : DirSet) : DirSet := { d with ways := Vector.replicate 4 .i }

/-- The waiters of an entry: none unless it is ISSUED. -/
def TxnEntry.waiters : TxnEntry → List Waiter
  | .issued t => t.waiters
  | _ => []

/-- Every waiter of every entry, in ascending tag and then list order. -/
def State.allWaiters (s : State) : List Waiter := s.txns.toList.flatMap TxnEntry.waiters

/-- An ISSUED entry becomes ORPHANED (R88). -/
def TxnEntry.orphan : TxnEntry → TxnEntry
  | .issued _ => .orphaned
  | e => e

/-- An entry whose waiters are removed; all else stays (R89). -/
def TxnEntry.dropWaiters : TxnEntry → TxnEntry
  | .issued t => .issued { t with waiters := [] }
  | e => e

/-- A pin record that is WAITING becomes free (R123). -/
def dropWaiting : Option Pin → Option Pin
  | some p => if p.isActive then some p else none
  | none => none

/-- The RESET answer to a request removed from the ingress queue: a RESPONSE, or a MGMT_REPLY to a command
(R17; no reply fields, log 12). -/
def State.answerReset (s : State) (p : Packet) : State :=
  if kindByte p = mgmtCode then
    s.emit (.mgmtReply (senderOf p) (requestIdOf p) (commandByte p) .reset .none)
  else s.answerPacket p .reset

/-- Every request is removed from the ingress queue, oldest first, each with its CREDIT and then its RESET
answer (R17, R172 step 1). -/
def State.resetIngress (s : State) : State :=
  s.ingress.foldl (fun s p => (s.takeHead p []).answerReset p) { s with ingress := [] }

/-- Every held request is answered RESET and its slot freed, in ascending slot order (R139). -/
def State.resetHolds (s : State) : State :=
  s.holds.toList.foldl (fun s h => match h with
    | some q => s.answer q .reset
    | none => s) { s with holds := Vector.replicate 4 none }

/-- Every unacknowledged recall of the list is acknowledged NOT_HELD (R109). -/
def State.ackAll (s : State) (rs : List RecallRecord) : State :=
  rs.foldl (fun s r => s.ackRecall r.id .notHeld) s

/-! ### Traffic reset (R172) -/

/-- The one event of TRAFFIC_RESET, steps 1 to 8 of R172; the number of M lines discarded is counted before
it (R55). -/
def State.trafficReset (s : State) : State :=
  let s2 := s.resetIngress.resetHolds
  let s3 := s2.answerAll s2.allWaiters .reset
  let s6 := s3.ackAll s3.unacknowledged
  { s6 with txns := mapTable TxnEntry.orphan s6.txns
            eb := Vector.replicate 4 none
            dir := []
            recallQueue := []
            recallCount := 0
            pins := Vector.replicate 4 none }.stopDrain .reset

/-! ### Link reports -/

/-- The loss of the far link (R169): steps 1 to 8 after the link state and the channels. -/
def State.loseFarLink (s : State) : State :=
  let lines := s.countM
  let s0 := { s with farLink := .down, respCh := [], recallCh := [], reqCh := [], ackCh := []
                     dir := mapSets DirSet.clear s.dir }
  let s2 := s0.answerAll s0.allWaiters .isolated
  let s5 := { s2 with txns := Vector.replicate 32 .free
                      eb := Vector.replicate 4 none
                      recallQueue := []
                      recallCount := 0
                      pins := Vector.replicate 4 none }
  let s6 := s5.stopDrain .linkDown
  { s6 with mode := .isolated }.raise .linkLoss { lines := some lines }

/-- Each ACTIVE record is freed in ascending index order and its deferred recall applied (R174 step 4). -/
def State.clearPins (s : State) : State :=
  (List.finRange 4).foldl (fun s i => match s.pins[i] with
    | some p => s.endPin i p.deferred?
    | none => s) s

/-- The loss of the near link (R174). -/
def State.loseNearLink (s : State) : State :=
  let s3 := { s with nearLink := .down, ingress := [], egress := [], credits := Vector.replicate 16 0
                     noticeInterval := none
                     holds := Vector.replicate 4 none
                     txns := mapTable TxnEntry.dropWaiters s.txns
                     pins := mapTable dropWaiting s.pins }
  let s4 := s3.clearPins
  { s4 with drain := { s4.drain with pendingReply := none } }

/-! ### Notice delivery (R18) -/

/-- The notice that entered the set earliest is taken and sent to the notice target, and the interval of
8 microseconds starts; nothing while the near link is DOWN, an interval runs or the set is empty (R18). -/
def State.takeNotice (s : State) : State :=
  match s.nearLink, s.noticeInterval, s.notices with
  | .up, none, n :: rest =>
    { s with notices := rest, noticeInterval := some (s.now + 8) }.emit (.notice s.config.noticeTarget n)
  | _, _, _ => s

/-- The interval whose end is reached ends, and the next notice, if any, is taken at once (R18). -/
def State.endInterval (s : State) : State :=
  match s.noticeInterval with
  | some t => if t ≤ s.now then { s with noticeInterval := none }.takeNotice else s
  | none => s

/-! ### The steps -/

/-- NOTICE_TAKE (R18). -/
def execNoticeTake (s : State) : Host.Outcome State Fault Refusal := .next s.takeNotice

/-- NOTICE_INTERVAL_END (R18). -/
def execNoticeIntervalEnd (s : State) : Host.Outcome State Fault Refusal := .next s.endInterval

/-- EGRESS_DEPARTURE (R15, R179): the oldest produced packet departs, as bytes. -/
def execEgressDeparture (s : State) : Host.Outcome State Fault Refusal :=
  match s.nearLink, s.egress with
  | .up, p :: rest => .next { s with egress := rest, wireNear := s.wireNear ++ [p.bytes] }
  | _, _ => .next s

/-- FAR_PACKET_DEPARTURE (R62, R180): the oldest produced packet of the channel departs to the home. -/
def execFarPacketDeparture (channel : DepartingChannel) (s : State) : Host.Outcome State Fault Refusal :=
  match channel, s.farLink with
  | .request, .up =>
    match s.reqCh with
    | r :: rest => .next { s with reqCh := rest, wireRequest := s.wireRequest ++ [r.bytes] }
    | [] => .next s
  | .ack, .up =>
    match s.ackCh with
    | a :: rest => .next { s with ackCh := rest, wireAck := s.wireAck ++ [a.bytes] }
    | [] => .next s
  | _, .down => .next s

/-- NEAR_LINK_DOWN (R16, R174): nothing while the state is DOWN already. -/
def execNearLinkDown (s : State) : Host.Outcome State Fault Refusal :=
  match s.nearLink with
  | .up => .next s.loseNearLink
  | .down => .next s

/-- NEAR_LINK_UP (R17): the state becomes UP and every credit count 4; nothing while it is UP already. -/
def execNearLinkUp (s : State) : Host.Outcome State Fault Refusal :=
  match s.nearLink with
  | .down => .next { s with nearLink := .up, credits := Vector.replicate 16 4 }
  | .up => .next s

/-- FAR_LINK_DOWN (R169): nothing while the state is DOWN already. -/
def execFarLinkDown (s : State) : Host.Outcome State Fault Refusal :=
  match s.farLink with
  | .up => .next s.loseFarLink
  | .down => .next s

/-- FAR_LINK_UP (R171): only the far link state changes. -/
def execFarLinkUp (s : State) : Host.Outcome State Fault Refusal := .next { s with farLink := .up }

/-- COLD_RESET (R176): every block at its reset values and no packet produced. The command queue and the
record of what has departed are not the part's and stay (log 19). -/
def execColdReset (s : State) : Host.Outcome State Fault Refusal :=
  .next { State.reset with wireNear := s.wireNear, wireRequest := s.wireRequest, wireAck := s.wireAck
                           pending := s.pending }

end Sys2Proof.Machine
end

