-- ==== Sys2Proof/Machine/Management.lean ====
section
/-! DEFINITION. The management unit (09): taking a command, the sender and index checks, and each command's
execution and reply. -/

namespace Sys2Proof.Machine

/-! ### Taking and answering commands (R151, R153) -/

/-- The command's MGMT_REPLY (R151, R179). -/
def State.reply (s : State) (p : Packet) (status : MgmtStatus) (fields : ReplyFields := .none) : State :=
  s.emit (.mgmtReply (senderOf p) (requestIdOf p) (commandByte p) status fields)

/-- The execution of a command: MALFORMED at the form check (R10), DENIED at the sender check (R151), else
`run`. -/
def State.command (s : State) (p : Packet) (run : State → Packet → State) : State :=
  if !commandWellFormed p then s.reply p .malformed
  else if !s.config.managers.getLsbD (senderOf p).val then s.reply p .denied
  else run s p

/-- The oldest ingress request is a MGMT request that `wanted` accepts; it is taken and executed whole (R9,
R11, R151). -/
def State.takeCommand (s : State) (wanted : Packet → Bool) (run : State → Packet → State) : State :=
  match s.ingress with
  | p :: rest =>
    if kindByte p = mgmtCode ∧ wanted p then (s.takeHead p rest).command p run else s
  | [] => s

/-- The command's code is this one. -/
def hasCommand (code : Byte) (p : Packet) : Bool := commandByte p == code

/-- The table code of a READ_ENTRY or WRITE_ENTRY, 0 where the payload has none (R178). -/
def tableByte (p : Packet) : Byte := byteAt (payloadOf p) 0

/-- The index byte of a READ_ENTRY or WRITE_ENTRY. -/
def indexByte (p : Packet) : Nat := (byteAt (payloadOf p) 1).toNat

/-- The slot or record index byte of RELEASE_HOLD, DISCARD_HOLD and BREAK_PIN. -/
def slotByte (p : Packet) : Nat := (byteAt (payloadOf p) 0).toNat

/-- The 16 bytes of the entry that a WRITE_ENTRY carries (R178, R181). -/
def entryBytes (p : Packet) : List Byte := ((payloadOf p).drop 2).take 16

/-- The command has the code, and its table is this one or none of the three: an unknown table is refused by
whichever of the three steps takes it (R153; log 11). -/
def hasTable (code table : Byte) (p : Packet) : Bool :=
  hasCommand code p && (tableByte p == table || tableByte p == 0 || decide (3 < (tableByte p).toNat))

/-- An index in range, or none. -/
def index? (n : Nat) (i : Nat) : Option (Fin n) := if h : i < n then some ⟨i, h⟩ else none

/-! ### Reading and writing entries (R154, R155) -/

/-- READ_ENTRY of table WINDOW (R153, R154). -/
def runReadWindow (s : State) (p : Packet) : State :=
  match index? 32 (indexByte p) with
  | some i => if tableByte p = 1 then s.reply p .ok (.window s.windows[i]) else s.reply p .invalidEntry
  | none => s.reply p .invalidEntry

/-- READ_ENTRY of table WATCH (R153, R154). -/
def runReadWatch (s : State) (p : Packet) : State :=
  match index? 8 (indexByte p) with
  | some i => if tableByte p = 2 then s.reply p .ok (.watch s.watch[i]) else s.reply p .invalidEntry
  | none => s.reply p .invalidEntry

/-- READ_ENTRY of table CONFIG (R153, R154). -/
def runReadConfig (s : State) (p : Packet) : State :=
  if tableByte p = 3 ∧ indexByte p = 0 then s.reply p .ok (.config s.config) else s.reply p .invalidEntry

/-- WRITE_ENTRY of table WINDOW (R33, R153, R155). -/
def runWriteWindow (s : State) (p : Packet) : State :=
  match index? 32 (indexByte p), windowOf (entryBytes p) with
  | some i, some e =>
    if tableByte p = 1 then { s with windows := upd s.windows i e }.reply p .ok else s.reply p .invalidEntry
  | _, _ => s.reply p .invalidEntry

/-- WRITE_ENTRY of table WATCH (R130, R153, R155): the hit count becomes 0. -/
def runWriteWatch (s : State) (p : Packet) : State :=
  match index? 8 (indexByte p), watchOf (entryBytes p) with
  | some i, some e =>
    if tableByte p = 2 then { s with watch := upd s.watch i e }.reply p .ok else s.reply p .invalidEntry
  | _, _ => s.reply p .invalidEntry

/-- WRITE_ENTRY of table CONFIG (R153, R155, R157). -/
def runWriteConfig (s : State) (p : Packet) : State :=
  match configOf (entryBytes p) with
  | some c =>
    if tableByte p = 3 ∧ indexByte p = 0 then { s with config := c }.reply p .ok
    else s.reply p .invalidEntry
  | none => s.reply p .invalidEntry

/-! ### Status and inspection (R159 to R162) -/

/-- The entry is ISSUED. -/
def TxnEntry.isIssued : TxnEntry → Bool
  | .issued _ => true
  | _ => false

/-- The entry is ORPHANED. -/
def TxnEntry.isOrphaned : TxnEntry → Bool
  | .orphaned => true
  | _ => false

/-- The status record as the state stands (R160). -/
def State.status (s : State) : StatusRecord :=
  { mode := s.mode, farLink := s.farLink
    issued := tally s.txns TxnEntry.isIssued
    orphaned := tally s.txns TxnEntry.isOrphaned
    evictions := tally s.eb Option.isSome
    recalls := s.recallCount
    pinsWaiting := tally s.pins fun r => r.any fun p => !p.isActive
    pinsActive := tally s.pins fun r => r.any Pin.isActive
    holds := tally s.holds Option.isSome
    captures := s.captures.length
    drainState := s.drain.st, cursorSet := s.drain.cursorSet, cursorWay := s.drain.cursorWay
    pendingKinds := s.notices.map Notice.kind }

/-- The line state that a probe reports of a way (R161). -/
def Way.residentState : Way → Option ResidentState
  | .i => none
  | .fill _ => some .fill
  | .copy st _ _ => some (.copy st)

/-- The position of a way number in an LRU order list, 0 being the front. -/
def lruPosition (l : List (Fin 4)) (w : Fin 4) : Nat := l.findIdx fun v => v == w

/-- The directory's part of a probe: the lookup of R41. -/
def State.probeResident (s : State) (line : Addr) : Option ProbeResident :=
  match s.lookup line with
  | some loc =>
    (s.wayAt loc).residentState.map fun st =>
      { st := st, loc := loc, lruPosition := lruPosition (readSet s.dir loc.set).lru loc.way }
  | none => none

/-- The eviction buffer's part of a probe. -/
def State.probeEviction (s : State) (line : Addr) : Option (Fin 4 × EvictionOrigin) :=
  match lowest s.eb fun e => e.any fun v => v.line == line with
  | some i => (s.eb[i]).map fun v => (i, v.origin)
  | none => none

/-- The transaction table's part of a probe: the ISSUED entry of kind FETCH_S, FETCH_X, UPGRADE or WRITEBACK
whose target is the line. -/
def State.probeTxn (s : State) (line : Addr) : Option (Tag × TxnKind) :=
  match lowest s.txns fun e => match e with
    | .issued t => t.kind.line? == some line
    | _ => false with
  | some tag =>
    match s.txns[tag] with
    | .issued t => some (tag, t.kind)
    | _ => none
  | none => none

/-- The pin table's part of a probe: the record of lowest index that names the line. -/
def State.probePin (s : State) (line : Addr) : Option (Fin 4 × PinState) :=
  match lowest s.pins fun p => p.any fun v => v.line == line with
  | some i => (s.pins[i]).map fun v => (i, v.st)
  | none => none

/-- The recall unit's part of a probe: the unacknowledged recall that names the line, and its place. -/
def State.probeRecall (s : State) (line : Addr) : Option (RecallRecord × RecallPlace) :=
  match s.recallQueue.find? fun r => r.line == line with
  | some r => some (r, .queued)
  | none =>
    match s.notedRecalls.find? fun r => r.line == line with
    | some r => some (r, .noted)
    | none => (s.deferredRecalls.find? fun r => r.line == line).map fun r => (r, .deferred)

/-- The probe record of the line of a byte address (R161). -/
def State.probe (s : State) (a : Addr) : ProbeRecord :=
  let line := lineOf a
  { line := line, resident := s.probeResident line, eviction := s.probeEviction line,
    txn := s.probeTxn line, pin := s.probePin line, unacked := s.probeRecall line }

/-- A held pin record as LIST_PINS reports it: the time remaining is its deadline minus the present time
(R162, R184). -/
def pinElement (now : Nat) (i : Fin 4) (p : Pin) : PinElement :=
  match p.st with
  | .waiting loc =>
    { index := i, owner := p.owner, line := p.line, active := false, loc := loc, remaining := 0,
      deferred := none }
  | .active loc deadline deferred =>
    { index := i, owner := p.owner, line := p.line, active := true, loc := some loc,
      remaining := deadline - now, deferred := deferred }

/-- The held pin records in ascending index (R162). -/
def State.pinList (s : State) : List PinElement :=
  (List.finRange 4).filterMap fun i => (s.pins[i]).map (pinElement s.now i)

/-- READ_STATUS (R160). -/
def runReadStatus (s : State) (p : Packet) : State := s.reply p .ok (.status s.status)

/-- PROBE_LINE (R161): any byte of the line may be named. -/
def runProbeLine (s : State) (p : Packet) : State := s.reply p .ok (.probe (s.probe (addrAt (payloadOf p) 0)))

/-- LIST_PINS (R162). -/
def runListPins (s : State) (p : Packet) : State := s.reply p .ok (.pins s.pinList)

/-! ### Drains, captures, holds, pins (R134, R137, R138, R141, R147, R122) -/

/-- The drain record of an accepted DRAIN (R141). -/
def startedDrain (mode : DrainMode) (p : Packet) : Drain :=
  { st := .scanning, mode := mode, cursorSet := 0, cursorWay := 0, waiting := false, writtenBack := 0,
    invalidated := 0, skippedPinned := 0, failed := 0, outstanding := 0, aborted := false,
    pendingReply := some (senderOf p, requestIdOf p) }

/-- DRAIN (R141): BUSY, INVALID_ENTRY, or accepted with its reply pending. -/
def runDrain (s : State) (p : Packet) : State :=
  match s.drain.st with
  | .idle =>
    match drainModeOf (byteAt (payloadOf p) 0) with
    | some mode => { s with drain := startedDrain mode p }
    | none => s.reply p .invalidEntry
  | _ => s.reply p .busy

/-- DRAIN_ABORT (R147). -/
def runDrainAbort (s : State) (p : Packet) : State :=
  match s.drain.st with
  | .idle => s.reply p .notFound
  | .scanning =>
    ({ s with drain := { s.drain with aborted := true, waiting := false } }.endScan).reply p .ok
  | .finishing => { s with drain := { s.drain with aborted := true } }.reply p .ok

/-- POP_CAPTURE (R134). -/
def runPopCapture (s : State) (p : Packet) : State :=
  match s.captures with
  | c :: rest => { s with captures := rest }.reply p .ok (.capture c rest.length)
  | [] => s.reply p .empty

/-- RELEASE_HOLD (R137): the slot is freed, its request admitted from the mode check, then the reply. -/
def runReleaseHold (s : State) (p : Packet) : State :=
  match index? 4 (slotByte p) with
  | some i =>
    match s.holds[i] with
    | some q =>
      ({ s with holds := upd s.holds i none }.admitFromMode q).reply p .ok (.held q.requester q.id)
    | none => s.reply p .notFound
  | none => s.reply p .invalidEntry

/-- DISCARD_HOLD (R138): the slot is freed, its request answered WATCH_DISCARD, then the reply. -/
def runDiscardHold (s : State) (p : Packet) : State :=
  match index? 4 (slotByte p) with
  | some i =>
    match s.holds[i] with
    | some q =>
      ({ s with holds := upd s.holds i none }.answer q .watchDiscard).reply p .ok (.held q.requester q.id)
    | none => s.reply p .notFound
  | none => s.reply p .invalidEntry

/-- BREAK_PIN (R122): an ACTIVE record is freed and its deferred recall applied. -/
def runBreakPin (s : State) (p : Packet) : State :=
  match index? 4 (slotByte p) with
  | some i =>
    match s.pins[i] with
    | some v =>
      match v.st with
      | .active _ _ deferred => (s.endPin i deferred).reply p .ok (.brokenPin v.owner v.line)
      | .waiting _ => s.reply p .notFound
    | none => s.reply p .notFound
  | none => s.reply p .invalidEntry

/-- TRAFFIC_RESET (R167, R172): the reset, then the reply with the number of M lines discarded. -/
def runTrafficReset (s : State) (p : Packet) : State := s.trafficReset.reply p .ok (.discarded s.countM)

/-- REATTACH (R166): LINK_DOWN while the far link is DOWN, else the mode is OPERATING. -/
def runReattach (s : State) (p : Packet) : State :=
  match s.farLink with
  | .down => s.reply p .linkDown
  | .up => { s with mode := .operating }.reply p .ok

/-! ### The steps -/

/-- READ_ENTRY_WINDOW (R154). -/
def execReadEntryWindow (s : State) : Host.Outcome State Fault Refusal :=
  .next (s.takeCommand (hasTable 1 1) runReadWindow)

/-- READ_ENTRY_WATCH (R154). -/
def execReadEntryWatch (s : State) : Host.Outcome State Fault Refusal :=
  .next (s.takeCommand (hasTable 1 2) runReadWatch)

/-- READ_ENTRY_CONFIG (R154). -/
def execReadEntryConfig (s : State) : Host.Outcome State Fault Refusal :=
  .next (s.takeCommand (hasTable 1 3) runReadConfig)

/-- WRITE_ENTRY_WINDOW (R33). -/
def execWriteEntryWindow (s : State) : Host.Outcome State Fault Refusal :=
  .next (s.takeCommand (hasTable 2 1) runWriteWindow)

/-- WRITE_ENTRY_WATCH (R130). -/
def execWriteEntryWatch (s : State) : Host.Outcome State Fault Refusal :=
  .next (s.takeCommand (hasTable 2 2) runWriteWatch)

/-- WRITE_ENTRY_CONFIG (R157). -/
def execWriteEntryConfig (s : State) : Host.Outcome State Fault Refusal :=
  .next (s.takeCommand (hasTable 2 3) runWriteConfig)

/-- READ_STATUS (R160). -/
def execReadStatus (s : State) : Host.Outcome State Fault Refusal :=
  .next (s.takeCommand (hasCommand 3) runReadStatus)

/-- PROBE_LINE (R161). -/
def execProbeLine (s : State) : Host.Outcome State Fault Refusal :=
  .next (s.takeCommand (hasCommand 4) runProbeLine)

/-- LIST_PINS (R162). -/
def execListPins (s : State) : Host.Outcome State Fault Refusal :=
  .next (s.takeCommand (hasCommand 5) runListPins)

/-- DRAIN (R141). -/
def execDrain (s : State) : Host.Outcome State Fault Refusal := .next (s.takeCommand (hasCommand 6) runDrain)

/-- DRAIN_ABORT (R147). -/
def execDrainAbort (s : State) : Host.Outcome State Fault Refusal :=
  .next (s.takeCommand (hasCommand 8) runDrainAbort)

/-- POP_CAPTURE (R134). -/
def execPopCapture (s : State) : Host.Outcome State Fault Refusal :=
  .next (s.takeCommand (hasCommand 9) runPopCapture)

/-- RELEASE_HOLD (R137). -/
def execReleaseHold (s : State) : Host.Outcome State Fault Refusal :=
  .next (s.takeCommand (hasCommand 10) runReleaseHold)

/-- DISCARD_HOLD (R138). -/
def execDiscardHold (s : State) : Host.Outcome State Fault Refusal :=
  .next (s.takeCommand (hasCommand 11) runDiscardHold)

/-- BREAK_PIN (R122). -/
def execBreakPin (s : State) : Host.Outcome State Fault Refusal :=
  .next (s.takeCommand (hasCommand 12) runBreakPin)

/-- TRAFFIC_RESET (R172). -/
def execTrafficReset (s : State) : Host.Outcome State Fault Refusal :=
  .next (s.takeCommand (hasCommand 13) runTrafficReset)

/-- REATTACH (R166). -/
def execReattach (s : State) : Host.Outcome State Fault Refusal :=
  .next (s.takeCommand (hasCommand 14) runReattach)

/-- The command code is none of the management commands (R178). -/
def unknownCommandCode (p : Packet) : Bool := (commandFields (commandByte p).toNat).isNone

/-- UNKNOWN_COMMAND (R10): its credit is returned and it is answered MALFORMED, echoing the code. -/
def execUnknownCommand (s : State) : Host.Outcome State Fault Refusal :=
  match s.ingress with
  | p :: rest =>
    if kindByte p = mgmtCode ∧ unknownCommandCode p then .next ((s.takeHead p rest).reply p .malformed)
    else .next s
  | [] => .next s

end Sys2Proof.Machine
end

