-- ==== Sys2Proof/Machine/Clock.lean ====
section
/-! DEFINITION. Time (R183): what happens when no command waits. The table has no row for a tick (log 2). -/

namespace Sys2Proof.Machine

/-- Every timer whose deadline is the present time and whose expiry no command has taken expires: entries in
ascending tag order, pin records in ascending index order, then the notice interval (R18, R84, R120, R183;
the order among them is a DESIGN CHOICE, log 3). -/
def State.expireDue (s : State) : State :=
  let s1 := (List.finRange 32).foldl State.expireTxn s
  ((List.finRange 4).foldl State.expirePin s1).endInterval

/-- The end of a microsecond: what is due expires, then the present time rises by one (R183; log 2). -/
def State.tick (s : State) : State :=
  let s1 := s.expireDue
  { s1 with now := s1.now + 1 }

end Sys2Proof.Machine
end

