-- ==== Sys2Proof/Machine/Dispatch.lean ====
section
/-! DEFINITION. The meaning of every command, one arm per row of spec/opcode_table.json. -/

namespace Sys2Proof.Machine

/-- The effect of a command on everything but the queue. -/
def exec (i : Instr) (s : State) : Host.Outcome State Fault Refusal :=
  match i with
  | .packetArrival p => Sys2Proof.Machine.execPacketArrival p s
  | .read => Sys2Proof.Machine.execRead s
  | .write => Sys2Proof.Machine.execWrite s
  | .lockRead => Sys2Proof.Machine.execLockRead s
  | .unlockWrite => Sys2Proof.Machine.execUnlockWrite s
  | .atomic => Sys2Proof.Machine.execAtomic s
  | .unknownKindRequest => Sys2Proof.Machine.execUnknownKindRequest s
  | .responseArrival p => Sys2Proof.Machine.execResponseArrival p s
  | .grantSData => Sys2Proof.Machine.execGrantSData s
  | .grantXData => Sys2Proof.Machine.execGrantXData s
  | .grantX => Sys2Proof.Machine.execGrantX s
  | .wbDone => Sys2Proof.Machine.execWbDone s
  | .ucData => Sys2Proof.Machine.execUcData s
  | .ucDone => Sys2Proof.Machine.execUcDone s
  | .atomicResult => Sys2Proof.Machine.execAtomicResult s
  | .fail => Sys2Proof.Machine.execFail s
  | .unknownResponse => Sys2Proof.Machine.execUnknownResponse s
  | .shortResponse => Sys2Proof.Machine.execShortResponse s
  | .transactionExpiry tag => Sys2Proof.Machine.execTransactionExpiry tag s
  | .recallArrival p => Sys2Proof.Machine.execRecallArrival p s
  | .downgrade => Sys2Proof.Machine.execDowngrade s
  | .surrender => Sys2Proof.Machine.execSurrender s
  | .pinExpiry record => Sys2Proof.Machine.execPinExpiry record s
  | .drainVisit => Sys2Proof.Machine.execDrainVisit s
  | .readEntryWindow => Sys2Proof.Machine.execReadEntryWindow s
  | .readEntryWatch => Sys2Proof.Machine.execReadEntryWatch s
  | .readEntryConfig => Sys2Proof.Machine.execReadEntryConfig s
  | .writeEntryWindow => Sys2Proof.Machine.execWriteEntryWindow s
  | .writeEntryWatch => Sys2Proof.Machine.execWriteEntryWatch s
  | .writeEntryConfig => Sys2Proof.Machine.execWriteEntryConfig s
  | .readStatus => Sys2Proof.Machine.execReadStatus s
  | .probeLine => Sys2Proof.Machine.execProbeLine s
  | .listPins => Sys2Proof.Machine.execListPins s
  | .drain => Sys2Proof.Machine.execDrain s
  | .drainAbort => Sys2Proof.Machine.execDrainAbort s
  | .popCapture => Sys2Proof.Machine.execPopCapture s
  | .releaseHold => Sys2Proof.Machine.execReleaseHold s
  | .discardHold => Sys2Proof.Machine.execDiscardHold s
  | .breakPin => Sys2Proof.Machine.execBreakPin s
  | .trafficReset => Sys2Proof.Machine.execTrafficReset s
  | .reattach => Sys2Proof.Machine.execReattach s
  | .noticeTake => Sys2Proof.Machine.execNoticeTake s
  | .noticeIntervalEnd => Sys2Proof.Machine.execNoticeIntervalEnd s
  | .egressDeparture => Sys2Proof.Machine.execEgressDeparture s
  | .farPacketDeparture channel => Sys2Proof.Machine.execFarPacketDeparture channel s
  | .nearLinkDown => Sys2Proof.Machine.execNearLinkDown s
  | .nearLinkUp => Sys2Proof.Machine.execNearLinkUp s
  | .farLinkDown => Sys2Proof.Machine.execFarLinkDown s
  | .farLinkUp => Sys2Proof.Machine.execFarLinkUp s
  | .coldReset => Sys2Proof.Machine.execColdReset s
  | .unknownCommand => Sys2Proof.Machine.execUnknownCommand s

end Sys2Proof.Machine
end

