-- ==== Sys2Proof/Machine/Step.lean ====
section
/-! DEFINITION. One step: the command at the front of the queue, or the end of a microsecond on an empty
queue. -/

namespace Sys2Proof.Machine

/-- The step: the front command is taken and run on the state with the queue's rest; on an empty queue time
passes (R183; logs 2, 5). -/
def step (s : State) : Host.Outcome State Fault Refusal :=
  match s.pending with
  | c :: rest => exec c { s with pending := rest }
  | [] => .next s.tick

/-- The command that a table word spells is put at the front of the queue; the state is unchanged where the
word spells none, and no row of the table gives bits (log 5). -/
def State.withFetchWord (s : State) (nbits w : Nat) : State :=
  match decodeTableWord nbits w with
  | some c => { s with pending := c :: s.pending }
  | none => s

end Sys2Proof.Machine
end

