-- ==== Sys2Proof/Safety.lean ====
section
/-! DEFINITION. The laws that the manual states of the whole part, as properties of a state that every step
keeps, and the vocabulary in which the statements say what a command finds and what it leaves. -/

namespace Sys2Proof.Safety

open Sys2Proof.Machine

/-! ### Laws of one block -/

/-- The directory's one form (log 20), and R40: every LRU order list holds each way number exactly once. -/
def DirectoryForm (s : State) : Prop :=
  dirWf s.dir = true ∧ ∀ e ∈ s.dir, e.2.lru.Perm [0, 1, 2, 3]

/-- R6, with what R17 gives while the near link is DOWN: credits plus queued requests equal 4 for every
requester while UP; nothing is queued, produced or counted while DOWN. -/
def CreditForm (s : State) : Prop :=
  match s.nearLink with
  | .up => ∀ r : Requester, s.credits[r] + s.ingress.countP (fun p => senderOf p == r) = 4
  | .down =>
    s.ingress = [] ∧ s.egress = [] ∧ s.noticeInterval = none ∧ ∀ r : Requester, s.credits[r] = 0

/-- R132: at most 16 capture records, with consecutive sequence numbers up to the next one, none with an
empty set of matched entries. -/
def CaptureForm (s : State) : Prop :=
  s.captures.length ≤ 16 ∧ (∀ c ∈ s.captures, c.matched ≠ []) ∧
    s.captures.map Capture.sequence =
      (List.range s.captures.length).map fun i => s.nextSeq - BitVec.ofNat 16 (s.captures.length - i)

/-- R163: at most one notice of each kind, each with a count from 1 to 255. -/
def NoticeForm (s : State) : Prop :=
  (s.notices.map Notice.kind).Nodup ∧ ∀ n ∈ s.notices, 1 ≤ n.count ∧ n.count ≤ 255

/-- R156: the configuration record's ranges. -/
def ConfigForm (c : ConfigRecord) : Prop :=
  16 ≤ c.farTimeout ∧ c.farTimeout ≤ 65535 ∧ 1 ≤ c.pinTimeout ∧ c.pinTimeout ≤ 1023 ∧ c.managers ≠ 0

/-- R19: a window entry's ranges. -/
def WindowForm (e : WindowEntry) : Prop :=
  12 ≤ e.exponent ∧ e.exponent ≤ 38 ∧ e.base.toNat % 2 ^ e.exponent = 0

/-- R128: a watch entry's ranges. -/
def WatchForm (e : WatchEntry) : Prop :=
  e.exponent ≤ 12 ∧ e.base.toNat % 2 ^ e.exponent = 0 ∧ e.kinds ≠ 0 ∧ e.hits ≤ 4294967295

/-- R19, R128 and R156: every table holds contents that its validation accepts. -/
def TablesForm (s : State) : Prop :=
  (∀ i : Fin 32, WindowForm s.windows[i]) ∧ (∀ i : Fin 8, WatchForm s.watch[i]) ∧ ConfigForm s.config

/-- Every way of every set is I. -/
def AllInvalid (s : State) : Prop := ∀ e ∈ s.dir, ∀ w : Fin 4, e.2.ways[w] = .i

/-- R166 and R171: the part is OPERATING only while the far link is UP; while the far link is DOWN its
channels and the recall queue are empty; in ISOLATED the directory, the transaction table, the eviction
buffer and the pin table are empty. Between steps the recall channel is empty (log 7). -/
def ModeForm (s : State) : Prop :=
  (s.mode = .operating → s.farLink = .up) ∧
  (s.farLink = .down →
    s.reqCh = [] ∧ s.ackCh = [] ∧ s.respCh = [] ∧ s.recallQueue = [] ∧ s.recallCount = 0) ∧
  (s.mode = .isolated →
    AllInvalid s ∧ (∀ t : Tag, s.txns[t] = .free) ∧ (∀ i : Fin 4, s.eb[i] = none) ∧
      ∀ i : Fin 4, s.pins[i] = none) ∧
  s.recallCh = []

/-- R112: at most one pin record per requester. -/
def PinForm (s : State) : Prop :=
  ∀ i j : Fin 4, ∀ p ∈ s.pins[i], ∀ q ∈ s.pins[j], p.owner = q.owner → i = j

/-- The entry is ISSUED with origin DRAIN. -/
def ofDrain : TxnEntry → Bool
  | .issued t => t.origin == .drain
  | _ => false

/-- The entry is ISSUED with origin DRAIN and no WRITEBACK. -/
def strayDrain : TxnEntry → Bool
  | .issued t => t.origin == .drain && !t.kind.isWriteback
  | _ => false

/-- R140: outstanding counts the ISSUED write-backs of origin DRAIN; an IDLE engine has none and no reply
pending, a SCANNING one stands below set 1024, a FINISHING one has a write-back outstanding. -/
def DrainForm (s : State) : Prop :=
  s.drain.outstanding = tally s.txns ofDrain ∧ (∀ t : Tag, strayDrain s.txns[t] = false) ∧
  match s.drain.st with
  | .idle => s.drain.outstanding = 0 ∧ s.drain.pendingReply = none ∧ s.drain.waiting = false ∧
      s.drain.aborted = false
  | .scanning => s.drain.cursorSet < 1024 ∧ s.drain.aborted = false
  | .finishing => 0 < s.drain.outstanding ∧ s.drain.waiting = false

/-- The deadline of an ISSUED entry. -/
def TxnEntry.deadline? : TxnEntry → Option Nat
  | .issued t => some t.deadline
  | _ => none

/-- The deadline of an ACTIVE pin record. -/
def Pin.deadline? (p : Pin) : Option Nat :=
  match p.st with
  | .active _ d _ => some d
  | .waiting _ => none

/-- R66, R115, R18 and R183: no timer has run past its deadline, and none runs longer than its range. -/
def TimerForm (s : State) : Prop :=
  ConfigForm s.config ∧
  (∀ t : Tag, ∀ d ∈ TxnEntry.deadline? s.txns[t], s.now ≤ d ∧ d ≤ s.now + 65535) ∧
  (∀ i : Fin 4, ∀ p ∈ s.pins[i], ∀ d ∈ Pin.deadline? p, s.now ≤ d ∧ d ≤ s.now + 1023) ∧
  ∀ d ∈ s.noticeInterval, s.now ≤ d ∧ d ≤ s.now + 8

/-! ### The law of coherence: every line in one place, every transaction with its line (R36 to R39, R59, R61, R92, R112) -/

/-- The contents of an entry that is ISSUED. -/
def TxnEntry.txn? : TxnEntry → Option Txn
  | .issued t => some t
  | _ => none

/-- The line that a way holds together with a fetch or upgrade of this kind (R37, R38): FILL under a fetch or
an upgrade that has lost its copy, UPGRADE under an upgrade that has not. -/
def WayMatches (w : Way) : TxnKind → Prop
  | .fetchS x _ => w = .fill x
  | .fetchX x _ => w = .fill x
  | .upgrade x _ true => w = .fill x
  | .upgrade x _ false => ∃ data, w = .copy .upgrade x data
  | _ => True

/-- The way is in FILL or UPGRADE. -/
def Way.awaits : Way → Bool
  | .fill _ => true
  | .copy .upgrade _ _ => true
  | _ => false

/-- The line that a way holds in CLEANING. -/
def Way.cleaning? : Way → Option Addr
  | .copy .cleaning x _ => some x
  | _ => none

/-- The way holds the line in S or CLEANING. -/
def Way.isCleaned (x : Addr) : Way → Bool
  | .copy .s y _ => y == x
  | .copy .cleaning y _ => y == x
  | _ => false

/-- The way holds the line in X or M. -/
def Way.isExclusive (x : Addr) : Way → Bool
  | .copy .x y _ => y == x
  | .copy .m y _ => y == x
  | _ => false

/-- The pin record that a LOCK_READ waiter reserved. -/
def Waiter.pin? (w : Waiter) : Option (Fin 4) :=
  match w.access with
  | .lockRead _ i => some i
  | _ => none

/-- The laws that bind the directory, the transaction table, the eviction buffer, the pin table and the
recall unit to one another. -/
structure Coherent (s : State) : Prop where
  /-- The directory has its one form (log 20). -/
  form : dirWf s.dir = true
  /-- R35: a line is held only in the set of its index, at a multiple of 64. -/
  inSet : ∀ e ∈ s.dir, ∀ w : Fin 4, ∀ x ∈ (e.2.ways[w]).line?, setIndex x = e.1 ∧ x.toNat % 64 = 0
  /-- R36: a line occupies at most one way. -/
  oneWay : ∀ e ∈ s.dir, ∀ v w : Fin 4, ∀ x ∈ (e.2.ways[v]).line?, (e.2.ways[w]).line? = some x → v = w
  /-- R36: a line in the eviction buffer is in no way and in no other entry of the buffer. -/
  oneBuffer : ∀ i : Fin 4, ∀ v ∈ s.eb[i],
    s.lookup v.line = none ∧ ∀ j : Fin 4, ∀ u ∈ s.eb[j], u.line = v.line → i = j
  /-- R61: an eviction buffer entry exists only while its WRITEBACK is ISSUED. -/
  bufferOwned : ∀ i : Fin 4, ∀ v ∈ s.eb[i], ∃ t ∈ TxnEntry.txn? s.txns[v.tag],
    t.kind = .writebackDrop v.line i
  /-- R58, R61: a WRITEBACK DROP has its eviction buffer entry. -/
  dropBuffered : ∀ g : Tag, ∀ t ∈ TxnEntry.txn? s.txns[g], ∀ x i, t.kind = .writebackDrop x i →
    ∃ v ∈ s.eb[i], v.line = x ∧ v.tag = g
  /-- R59: at most one ISSUED fetch, upgrade or write-back names a line. -/
  onePerLine : ∀ g h : Tag, ∀ t ∈ TxnEntry.txn? s.txns[g], ∀ u ∈ TxnEntry.txn? s.txns[h],
    t.kind.line?.isSome = true → t.kind.line? = u.kind.line? → g = h
  /-- R35: a line that a fetch, an upgrade or a WRITEBACK KEEP names belongs in the set of its way. -/
  kindInSet : ∀ g : Tag, ∀ t ∈ TxnEntry.txn? s.txns[g], ∀ x loc,
    (t.kind = .fetchS x loc ∨ t.kind = .fetchX x loc ∨ (∃ b, t.kind = .upgrade x loc b) ∨
      t.kind = .writebackKeep x loc) → setIndex x = loc.set ∧ x.toNat % 64 = 0
  /-- R38: the way that a fetch or upgrade names is in FILL or UPGRADE as the entry's kind says. -/
  entryHasWay : ∀ g : Tag, ∀ t ∈ TxnEntry.txn? s.txns[g], ∀ loc ∈ t.kind.fetchLoc?,
    WayMatches (s.wayAt loc) t.kind
  /-- R38: a way in FILL or UPGRADE is named by an ISSUED fetch or upgrade. -/
  wayHasEntry : ∀ loc : Loc, Way.awaits (s.wayAt loc) = true → (s.fetchOf loc).isSome = true
  /-- R38: a way in CLEANING is named by an ISSUED WRITEBACK KEEP of its line. -/
  cleaningHasEntry : ∀ loc : Loc, ∀ x ∈ Way.cleaning? (s.wayAt loc),
    ∃ g : Tag, ∃ t ∈ TxnEntry.txn? s.txns[g], t.kind = .writebackKeep x loc
  /-- R41: a line whose WRITEBACK KEEP is ISSUED is absent, or in the way that the entry names, in S or
  CLEANING. -/
  keepState : ∀ g : Tag, ∀ t ∈ TxnEntry.txn? s.txns[g], ∀ x loc, t.kind = .writebackKeep x loc →
    ∀ l ∈ s.lookup x, l = loc ∧ Way.isCleaned x (s.wayAt l) = true
  /-- R112: a requester has at most one pin record. -/
  onePin : PinForm s
  /-- R112: an ACTIVE pin's line is in its way in X or M, and its deferred recall names that line. -/
  activeHolds : ∀ i : Fin 4, ∀ p ∈ s.pins[i], ∀ loc d r, p.st = .active loc d r →
    Way.isExclusive p.line (s.wayAt loc) = true ∧ ∀ v ∈ r, v.line = p.line
  /-- R117: a line is under at most one ACTIVE pin. -/
  oneActive : ∀ i j : Fin 4, ∀ p ∈ s.pins[i], ∀ q ∈ s.pins[j],
    p.isActive = true → q.isActive = true → p.line = q.line → i = j
  /-- R39, R112: a WAITING pin's LOCK_READ waits in the list of the entry that names its way. -/
  waitingListed : ∀ i : Fin 4, ∀ p ∈ s.pins[i], ∀ l, p.st = .waiting l →
    ∃ g : Tag, ∃ t ∈ TxnEntry.txn? s.txns[g], t.kind.fetchLoc? = l ∧ l.isSome = true ∧
      ∃ w ∈ t.waiters, w.requester = p.owner ∧ Waiter.pin? w = some i
  /-- R60: a LOCK_READ waiter's pin record is WAITING on the way and line of its entry, owned by its
  requester. -/
  listedWaits : ∀ g : Tag, ∀ t ∈ TxnEntry.txn? s.txns[g], ∀ w ∈ t.waiters, ∀ i ∈ Waiter.pin? w,
    ∃ p ∈ s.pins[i], p.owner = w.requester ∧ t.kind.fetchLoc?.isSome = true ∧
      p.st = .waiting t.kind.fetchLoc? ∧ t.kind.line? = some p.line
  /-- R47, R58, R60: a waiter list holds at most 8 waiters, one at most in an entry that goes home uncached or
  atomic, and none in a WRITEBACK. -/
  listBounded : ∀ g : Tag, ∀ t ∈ TxnEntry.txn? s.txns[g],
    t.waiters.length ≤ 8 ∧ (t.kind.line? = none → t.waiters.length ≤ 1) ∧
      (t.kind.isWriteback = true → t.waiters = [])
  /-- R92: the count is the number of unacknowledged recalls, at most 8. -/
  recallsCounted : s.recallCount = s.unacknowledged.length ∧ s.recallCount ≤ 8
  /-- R92: at most one unacknowledged recall names a line. -/
  oneRecall : (s.unacknowledged.map RecallRecord.line).Nodup
  /-- R97: a noted recall names its entry's line, whose way is in FILL. -/
  notedInFill : ∀ g : Tag, ∀ t ∈ TxnEntry.txn? s.txns[g], ∀ r ∈ t.noted,
    t.kind.line? = some r.line ∧ ∃ loc ∈ t.kind.fetchLoc?, s.wayAt loc = .fill r.line

/-! ### What a command finds -/

/-- The near link is UP and the oldest ingress packet is the memory request `q`. -/
def TakesRequest (s : State) (p : Packet) (rest : List Packet) (q : Request) : Prop :=
  s.nearLink = .up ∧ s.ingress = p :: rest ∧ parseRequest p = some q

/-- Steps 2 to 4 of admission let the request through (R12, R13, R131): nothing of its requester is held on
its line, no matching watch entry captures or holds, the part is OPERATING. -/
def ReachesWindow (s : State) (q : Request) : Prop :=
  s.heldOnLine q.requester (lineOf q.addr) = false ∧ s.matchesWith q .capture = false ∧
    s.matchesWith q .hold = false ∧ s.mode = .operating

/-- The window gives the request the right it needs and sends it on without copy removal (R23, R24, R30). -/
def ReachesDirectory (s : State) (q : Request) : Prop :=
  (s.treatmentOf q.addr).policy ≠ .deny ∧ (s.treatmentOf q.addr).permits q = true ∧
    (q.body.isLockRead = true → (s.treatmentOf q.addr).policy = .wb) ∧
    (s.treatmentOf q.addr).removesCopy q.body = false

/-- The window gives the request the right it needs and sends it through copy removal (R23, R24, R30). -/
def ReachesRemoval (s : State) (q : Request) : Prop :=
  (s.treatmentOf q.addr).policy ≠ .deny ∧ (s.treatmentOf q.addr).permits q = true ∧
    (s.treatmentOf q.addr).removesCopy q.body = true

/-- Conditions 1 and 2 of R42 do not hold for the request. -/
def Unobstructed (s : State) (q : Request) : Prop :=
  s.inEvictionBuffer (lineOf q.addr) = false ∧ s.foreignPin q.requester (lineOf q.addr) = false

/-- The line is resident in the way, in the state, with the data (R41). -/
def Resident (s : State) (line : Addr) (loc : Loc) (st : CopyState) (data : LineData) : Prop :=
  s.lookup line = some loc ∧ s.wayAt loc = .copy st line data

/-- The near link is UP and the oldest ingress packet is a well-formed MGMT request of this command code. -/
def TakesCommand (s : State) (p : Packet) (rest : List Packet) (code : Byte) : Prop :=
  s.nearLink = .up ∧ s.ingress = p :: rest ∧ kindByte p = mgmtCode ∧ commandByte p = code ∧
    commandWellFormed p = true

/-- The sender is in the manager set (R151). -/
def FromManager (s : State) (p : Packet) : Prop := s.config.managers.getLsbD (senderOf p).val = true

/-- The oldest packet of the response channel is of the kind, names the tag and carries the payload, and the
tag's entry is ISSUED with these contents. -/
def TakesResponse (s : State) (p : Packet) (rest : List Packet) (code : Byte) (tag : Tag) (t : Txn) : Prop :=
  s.respCh = p :: rest ∧ 4 ≤ p.length ∧ respKindByte p = code ∧ respTagByte p = byteOf tag.val ∧
    s.txns[tag] = .issued t

/-- The list holds a WRITE or LOCAL ATOMIC of the requester (R43, R45). -/
def WaitsToWrite (r : Requester) (ws : List Waiter) : Prop :=
  ∃ w ∈ ws, w.requester = r ∧
    ((∃ len mask data, w.access = .write len mask data) ∨ ∃ op, w.access = .atomic op)

/-- The window entry contains the byte address (R19). -/
def Covers (e : WindowEntry) (a : Addr) : Prop :=
  e.valid = true ∧ e.base.toNat ≤ a.toNat ∧ a.toNat < e.base.toNat + 2 ^ e.exponent

/-- The request's byte range and the watch entry's region have the byte in common (R131). -/
def CommonByte (e : WatchEntry) (q : Request) (b : Nat) : Prop :=
  q.addr.toNat ≤ b ∧ b < q.addr.toNat + q.body.len ∧ e.base.toNat ≤ b ∧ b < e.base.toNat + 2 ^ e.exponent

/-- R50: a miss on the line lacks a victim, a FREE tag, or, for an M victim, a free eviction buffer entry or a
second FREE tag. -/
def MissRefused (s : State) (line : Addr) : Prop :=
  s.victim (setIndex line) = none ∨ s.freeTag = none ∨
    ∃ loc, s.victim (setIndex line) = some loc ∧ (s.wayAt loc).isM = true ∧
      (s.freeSlot = none ∨ ∀ g h : Tag, s.txns[g] = .free → s.txns[h] = .free → g = h)

/-- R50 and R51: a miss on the line takes the M victim `old` of the way, with its data, and the free eviction
buffer entry and the two FREE tags of lowest numbers, `g` before `h`. -/
def MissEvicts (s : State) (line : Addr) (loc : Loc) (old : Addr) (data : LineData) (slot : Fin 4)
    (g h : Tag) : Prop :=
  s.victim (setIndex line) = some loc ∧ s.wayAt loc = .copy .m old data ∧ s.freeSlot = some slot ∧
    s.freeTag = some g ∧ s.txns[h] = .free ∧ h ≠ g ∧ ∀ k : Tag, k < h → k ≠ g → s.txns[k] ≠ .free

/-! ### The form check (R10, R178) -/

/-- The length is 0 or above 64, or the byte range leaves its line. -/
def RangeRefused (p : Packet) : Prop :=
  byteAt p 3 = 0 ∨ 64 < (byteAt p 3).toNat ∨ 64 < (addrAt p 4).toNat % 64 + (byteAt p 3).toNat

/-- The payload is shorter than the mask bytes, or the mask bits or the data bytes differ in number from the
length. -/
def MaskRefused (p : Packet) : Prop :=
  (payloadOf p).length < ((byteAt p 12).toNat + 7) / 8 ∨ byteAt p 12 ≠ byteAt p 3 ∨
    (payloadOf p).length - ((byteAt p 12).toNat + 7) / 8 ≠ (byteAt p 3).toNat

/-- No mask bit is set (R177: bit `i` is bit `i` modulo 8 of mask byte `i` / 8). -/
def MaskEmpty (p : Packet) : Prop :=
  ∀ i < (byteAt p 12).toNat, (byteAt (payloadOf p) (i / 8)).getLsbD (i % 8) = false

/-- The op is unknown, the address is not a multiple of 8, the compare value is absent with CAS or present
without it, or the payload is shorter than the operands. -/
def AtomicRefused (p : Packet) : Prop :=
  (commandByte p ≠ 1 ∧ commandByte p ≠ 2 ∧ commandByte p ≠ 3) ∨ (addrAt p 4).toNat % 8 ≠ 0 ∨
    (commandByte p = 3 ∧ (byteAt p 11).getLsbD 0 = false) ∨
    (commandByte p ≠ 3 ∧ (byteAt p 11).getLsbD 0 = true) ∨ (payloadOf p).length < 8 ∨
    ((byteAt p 11).getLsbD 0 = true ∧ (payloadOf p).length < 16)

/-- R10: the form check refuses a packet of this memory request kind. -/
def RequestRefused (p : Packet) : RequestKind → Prop
  | .read => RangeRefused p
  | .write => RangeRefused p ∨ MaskRefused p ∨ MaskEmpty p
  | .lockRead => RangeRefused p
  | .unlockWrite => RangeRefused p ∨ MaskRefused p
  | .atomic => AtomicRefused p

/-- R10: the form check refuses a packet of kind MGMT: its command code is 0, 7 or above 14, or a field of its
command is absent. -/
def CommandRefused (p : Packet) : Prop :=
  commandByte p = 0 ∨ commandByte p = 7 ∨ 14 < (commandByte p).toNat ∨
    (commandByte p = 1 ∧ (payloadOf p).length < 2) ∨ (commandByte p = 2 ∧ (payloadOf p).length < 18) ∨
    (commandByte p = 4 ∧ (payloadOf p).length < 6) ∨
    ((commandByte p = 6 ∨ commandByte p = 10 ∨ commandByte p = 11 ∨ commandByte p = 12) ∧
      (payloadOf p).length < 1)

/-! ### Which step takes a packet -/

/-- The step that admits a memory request of this kind. -/
def requestStep : RequestKind → Instr
  | .read => .read
  | .write => .write
  | .lockRead => .lockRead
  | .unlockWrite => .unlockWrite
  | .atomic => .atomic

/-- The step that executes a MGMT request: its command code decides, and for READ_ENTRY and WRITE_ENTRY its
table (log 11: an unknown table is given to the WINDOW step here). -/
def managementStep (p : Packet) : Instr :=
  match (commandByte p).toNat, (tableByte p).toNat with
  | 1, 2 => .readEntryWatch
  | 1, 3 => .readEntryConfig
  | 1, _ => .readEntryWindow
  | 2, 2 => .writeEntryWatch
  | 2, 3 => .writeEntryConfig
  | 2, _ => .writeEntryWindow
  | 3, _ => .readStatus
  | 4, _ => .probeLine
  | 5, _ => .listPins
  | 6, _ => .drain
  | 8, _ => .drainAbort
  | 9, _ => .popCapture
  | 10, _ => .releaseHold
  | 11, _ => .discardHold
  | 12, _ => .breakPin
  | 13, _ => .trafficReset
  | 14, _ => .reattach
  | _, _ => .unknownCommand

/-- The step that takes a far response with a whole header: its kind code decides (R180). -/
def responseStep (p : Packet) : Instr :=
  match (respKindByte p).toNat with
  | 1 => .grantSData
  | 2 => .grantXData
  | 3 => .grantX
  | 4 => .wbDone
  | 5 => .ucData
  | 6 => .ucDone
  | 7 => .atomicResult
  | 8 => .fail
  | _ => .unknownResponse

/-- The step that takes a recall of this kind (R94). -/
def recallStep : RecallKind → Instr
  | .downgrade => .downgrade
  | .surrender => .surrender

/-- The commands, taken one after the other, each complete and lead from the first state to the last. -/
def Follows : List Instr → State → State → Prop
  | [], s, t => t = s
  | c :: cs, s, t => ∃ u, exec c s = .next u ∧ Follows cs u t

/-- The expiries that end a microsecond, in the model's order (log 3): TRANSACTION_EXPIRY by ascending tag,
PIN_EXPIRY by ascending record index, NOTICE_INTERVAL_END. -/
def expiries : List Instr :=
  (List.finRange 32).map Instr.transactionExpiry ++ (List.finRange 4).map Instr.pinExpiry ++ [.noticeIntervalEnd]

/-! ### What a command leaves -/

/-- The directory changes in the one set, which becomes `v`. -/
def SetBecomes (d d' : List (Fin 1024 × DirSet)) (i : Fin 1024) (v : DirSet) : Prop :=
  readSet d' i = v ∧ ∀ j, j ≠ i → readSet d' j = readSet d j

/-- The set of a way, with the way replaced. -/
def withWay (s : State) (loc : Loc) (w : Way) : DirSet :=
  { readSet s.dir loc.set with ways := upd (readSet s.dir loc.set).ways loc.way w }

/-- The set of a way, with the way replaced and moved to the front of the LRU order list (R40). -/
def withWayInFront (s : State) (loc : Loc) (w : Way) : DirSet :=
  { ways := upd (readSet s.dir loc.set).ways loc.way w
    lru := toFront loc.way (readSet s.dir loc.set).lru }

/-- The state after the oldest ingress packet has left the queue and its CREDIT has been produced (R6). -/
def credited (s : State) (p : Packet) (rest : List Packet) : State :=
  { s with
    ingress := rest
    credits := upd s.credits (senderOf p) (s.credits[senderOf p] + 1)
    egress := s.egress ++ [.credit (senderOf p)] }

/-- As `credited`, with the hit counts of the matching watch entries raised (R131). -/
def counted (s : State) (p : Packet) (rest : List Packet) (q : Request) : State :=
  { credited s p rest with watch := mapTable (fun e => if e.matches q then e.hit else e) s.watch }

/-- The capture record of a request at its watch check: the next sequence number, and every matching entry's
index, whatever its action (R131, R132, R133). -/
def captureOf (s : State) (q : Request) (slot : Option (Fin 4)) : Capture :=
  { sequence := s.nextSeq, requester := q.requester, id := q.id, kind := q.body.kind, addr := q.addr,
    len := q.body.len, matched := (List.finRange 8).filter fun i => s.watch[i].matches q, heldSlot := slot }

/-- The detail of a CAPTURE_FULL occurrence (R133, R164). -/
def captureLost (q : Request) : NoticeDetail :=
  { requester := some q.requester, requestId := some q.id, kind := some q.body.kind, addr := some q.addr }

/-- A response to the request is produced (R3). -/
def responding (s : State) (q : Request) (status : RespStatus) (data : List Byte := []) : State :=
  { s with egress := s.egress ++ [.response q.requester q.id q.body.kind.code status data] }

/-- The command's reply is produced (R151). -/
def replying (s : State) (p : Packet) (status : MgmtStatus) (fields : ReplyFields := .none) : State :=
  { s with egress := s.egress ++ [.mgmtReply (senderOf p) (requestIdOf p) (commandByte p) status fields] }

/-- The oldest packet has left the response channel. -/
def responseTaken (s : State) (rest : List Packet) : State := { s with respCh := rest }

/-- The occurrence is recorded in the notice set by the enable set as it stands (R163). -/
def noticed (s : State) (kind : NoticeKind) (detail : NoticeDetail) : State :=
  { s with notices := recordOccurrence s.config.noticeEnable kind detail s.notices }

/-- A capture is made (R133): the record joins the tail and the sequence number rises, or, with 16 records
queued, the record is lost and CAPTURE_FULL raised. -/
def captured (s : State) (c : Capture) (lost : NoticeDetail) : State :=
  if 16 ≤ s.captures.length then noticed s .captureFull lost
  else { s with captures := s.captures ++ [c], nextSeq := s.nextSeq + 1 }

/-- How the admission of a memory request comes to the window check in OPERATING: the command, the state it is
given, the state in which the window check is made, and what the command does after the admission. A request of
the ingress queue comes there uncaptured, or captured by a CAPTURE entry and not held (R9, R131, R133, R135); a
held request comes there when it is released, and the reply follows it (R14, R137). -/
inductive ComesToWindow (q : Request) : Instr → State → State → (State → State) → Prop
  | fresh {s : State} {p : Packet} {rest : List Packet} (h : TakesRequest s p rest q) (w : ReachesWindow s q) :
    ComesToWindow q (requestStep q.body.kind) s (counted s p rest q) id
  | captured {s : State} {p : Packet} {rest : List Packet} (h : TakesRequest s p rest q)
    (hl : s.heldOnLine q.requester (lineOf q.addr) = false) (hh : s.matchesWith q .hold = false)
    (hc : s.matchesWith q .capture = true) (hm : s.mode = .operating) :
    ComesToWindow q (requestStep q.body.kind) s
      (Safety.captured (counted s p rest q) (captureOf s q none) (captureLost q)) id
  | released {s : State} {p : Packet} {rest : List Packet} {i : Fin 4} (h : TakesCommand s p rest 10)
    (hf : FromManager s p) (hi : slotByte p = i.val) (hq : s.holds[i] = some q) (hm : s.mode = .operating) :
    ComesToWindow q .releaseHold s { credited s p rest with holds := upd s.holds i none }
      (fun t => replying t p .ok (.held q.requester q.id))

/-- The answers of a waiter list, in list order, each with one status and no data (R3). -/
def waiterAnswers (ws : List Waiter) (status : RespStatus) : List NearPacket :=
  ws.map fun w => .response w.requester w.id w.access.kind.code status []

/-- The requester port after the answers are produced: on the egress while the near link is UP, discarded
while it is DOWN (R15). -/
def egressAfter (s : State) (answers : List NearPacket) : List NearPacket :=
  if s.nearLink = .up then s.egress ++ answers else s.egress

/-- The ack channel after an acknowledgement is produced: on the channel while the far link is UP, discarded
while it is DOWN (R62). -/
def ackChAfter (s : State) (acks : List RecallAck) : List RecallAck :=
  if s.farLink = .up then s.ackCh ++ acks else s.ackCh

/-- The request channel after a far request is produced (R62). -/
def reqChAfter (s : State) (rs : List FarRequest) : List FarRequest :=
  if s.farLink = .up then s.reqCh ++ rs else s.reqCh

/-- The waiter record of a request at step 7 (R60). -/
def waiterOf (q : Request) (access : Access) : Waiter :=
  { requester := q.requester, id := q.id, offset := offsetOf q.addr, access := access }

/-- A new ISSUED entry of origin REQUEST with the one waiter, its deadline set now (R63, R65, R66). -/
def issuedNow (s : State) (kind : TxnKind) (ws : List Waiter) (origin : Origin := .request) : TxnEntry :=
  .issued { kind := kind, waiters := ws, noted := none, deadline := s.now + s.config.farTimeout,
            origin := origin }

/-- What a READ, WRITE or ATOMIC asks of its line at step 7 (R60). -/
def plainAccess : RequestBody → Option Access
  | .read len => some (.read len)
  | .write len mask data => some (.write len mask data)
  | .atomic op => some (.atomic op)
  | _ => none

/-- The kind of the fetch that a miss issues: FETCH_S for a READ, FETCH_X for any other (03, table of 3.6). -/
def fetchKind (access : Access) (line : Addr) (loc : Loc) : TxnKind :=
  match access with
  | .read _ => .fetchS line loc
  | _ => .fetchX line loc

/-- The far request of that fetch (R63). -/
def fetchRequest (access : Access) (g : Tag) (line : Addr) : FarRequest :=
  match access with
  | .read _ => .fetchS g line
  | _ => .fetchX g line

/-- The kind of the entry of a request that goes home uncached or atomic (R65). -/
def uncachedKind (q : Request) : TxnKind :=
  match q.body with
  | .read len => .ucRead q.addr len
  | .atomic _ => .farAtomic q.addr
  | b => .ucWrite q.addr b.len

/-- Its far request: the byte address and length, the mask and data, or the op (R65). -/
def uncachedRequest (q : Request) (g : Tag) : FarRequest :=
  match q.body with
  | .read len => .ucRead g q.addr len
  | .write len mask data => .ucWrite g q.addr len mask data
  | .atomic op => .farAtomic g q.addr op
  | b => .ucRead g q.addr b.len

/-- What a walk over READ, WRITE and ATOMIC waiters does to a line held in X or M: its data afterwards,
whether a write was applied, and the answers in list order (R70, R71). -/
def walked : LineData → List Waiter → LineData × Bool × List NearPacket
  | data, [] => (data, false, [])
  | data, w :: ws =>
    match w.access with
    | .read len =>
      let r := walked data ws
      (r.1, r.2.1, .response w.requester w.id RequestKind.read.code .ok (lineBytes data w.offset len) :: r.2.2)
    | .write _ mask bytes =>
      let r := walked (writeBytes data w.offset mask bytes) ws
      (r.1, true, .response w.requester w.id RequestKind.write.code .ok [] :: r.2.2)
    | .atomic op =>
      let old := quantityAt data w.offset
      let r := walked (writeQuantity data w.offset (op.apply old)) ws
      (r.1, true, .response w.requester w.id RequestKind.atomic.code .ok (leBytes 8 old.toNat) :: r.2.2)
    | .lockRead _ _ => walked data ws

/-- What a walk does behind the LOCK_READ whose pin it has activated, as `walked` (R73): waiters of the pin's
owner are handled as for any line (R70, R71), every other waiter is answered RETRY. -/
def walkedBehind (owner : Requester) : LineData → List Waiter → LineData × Bool × List NearPacket
  | data, [] => (data, false, [])
  | data, w :: ws =>
    if w.requester = owner then
      let a := walked data [w]
      let r := walkedBehind owner a.1 ws
      (r.1, a.2.1 || r.2.1, a.2.2 ++ r.2.2)
    else
      let r := walkedBehind owner data ws
      (r.1, r.2.1, waiterAnswers [w] .retry ++ r.2.2)

/-- The answers of READ waiters served from the data, in list order (R70). -/
def readAnswers (data : LineData) (ws : List Waiter) : List NearPacket :=
  ws.map fun w => .response w.requester w.id RequestKind.read.code .ok (lineBytes data w.offset
    (match w.access with
      | .read len => len
      | _ => 0))

/-- The pin records after the WAITING record of every LOCK_READ waiter of the list is freed (R116). -/
def pinsWithout (pins : Vector (Option Pin) 4) (ws : List Waiter) : Vector (Option Pin) 4 :=
  ws.foldl (fun v w => match Waiter.pin? w with
    | some i => upd v i none
    | none => v) pins

/-- The acknowledgement NOT_HELD of a recall that was noted, if one was. -/
def notHeldAcks (r : Option RecallRecord) : List RecallAck :=
  r.toList.map fun v => { id := v.id, status := .notHeld }

/-- The state after the end of the ACTIVE pin of record `i` on the way (R102): the record is free, and a
deferred recall has been applied to its line, which the way held in `st` with the data. -/
def PinEnded (s : State) (i : Fin 4) (loc : Loc) (deferred : Option RecallRecord) (st : CopyState)
    (data : LineData) (t : State) : Prop :=
  match deferred with
  | none => t = { s with pins := upd s.pins i none }
  | some r => ∃ d, SetBecomes s.dir d loc.set (withWay s loc (afterRecall r.kind r.line data)) ∧
      t = { s with
        dir := d
        pins := upd s.pins i none
        ackCh := ackChAfter s [{ id := r.id, status := if st = .m then .dirty data else .clean }]
        recallCount := s.recallCount - 1 }

/-- R68 and R177: the bytes behind a GRANT_X or FAIL are ignored against an entry of this kind, R68 comparing
their length with none. -/
def ignoresSurplus : TxnKind → Bool
  | .fetchS _ _ => true
  | .fetchX _ _ => true
  | .upgrade _ _ _ => true
  | .ucRead _ _ => true
  | _ => false

/-- R68: the response kind, by its code, or its payload length is not accepted by an entry of the kind. (What
surplus bytes do behind WB_DONE, UC_DONE, and FAIL to a WRITEBACK or UC_WRITE, and bytes other than 8 behind FAIL to
a FAR_ATOMIC, is left open, log 10, and is not decided here.) -/
def refusesResponse (k : TxnKind) (code len : Nat) : Bool :=
  match k, code with
  | .fetchS _ _, 1 => len != 64
  | .fetchS _ _, 2 => len != 64
  | .fetchX _ _, 1 => len != 64
  | .fetchX _ _, 2 => len != 64
  | .upgrade _ _ _, 2 => len != 64
  | .upgrade _ _ _, 3 => false
  | .writebackKeep _ _, 4 => false
  | .writebackDrop _ _, 4 => false
  | .ucRead _ n, 5 => len != n
  | .ucWrite _ _, 6 => false
  | .farAtomic _, 7 => len != 8
  | _, 8 => false
  | _, _ => true

/-- The reply to the pending DRAIN, where one is pending, as the drain record stands (R146, R149). -/
def drainReplies (d : Drain) (status : MgmtStatus) : List NearPacket :=
  match d.pendingReply with
  | some (r, id) => [.mgmtReply r id drainCode status (.drain d.report)]
  | none => []

/-- The drain record with one more write-back reported, written back or failed (R146). -/
def drainCounted (written : Bool) (d : Drain) : Drain :=
  { d with
    writtenBack := if written then d.writtenBack + 1 else d.writtenBack
    failed := if written then d.failed else d.failed + 1
    outstanding := d.outstanding - 1 }

/-- The drain record after the end of an entry: as it was for origin REQUEST (R87); counted for origin DRAIN, and
IDLE after the last report in FINISHING (R146). -/
def drainAfterEnd (t : Txn) (written : Bool) (d : Drain) : Drain :=
  if t.origin = .request then d
  else if d.st = .finishing ∧ d.outstanding ≤ 1 then
    { drainCounted written d with st := .idle, waiting := false, aborted := false, pendingReply := none }
  else drainCounted written d

/-- The reply that the last report in FINISHING produces, where one is pending: ABORTED where aborted is set
(R146). -/
def drainEndReplies (t : Txn) (written : Bool) (d : Drain) : List NearPacket :=
  if t.origin = .drain ∧ d.st = .finishing ∧ d.outstanding ≤ 1 then
    drainReplies (drainCounted written d) (if d.aborted then .aborted else .ok)
  else []

/-- The deferred recall that an ACTIVE pin record holds for the way. -/
def defersAt (loc : Loc) (r : RecallRecord) (p : Pin) : Prop := ∃ deadline, p.st = .active loc deadline (some r)

/-- The acknowledgement that a pin record's deferred recall is given when the pin ends (R102): DIRTY with the data
of an M line, CLEAN otherwise. -/
def deferredAck (s : State) (i : Fin 4) : List RecallAck :=
  match (s.pins[i]).map Pin.st with
  | some (.active loc _ (some r)) =>
    [{ id := r.id
       status := match s.wayAt loc with
        | .copy .m _ data => .dirty data
        | _ => .clean }]
  | _ => []

/-- The acknowledgements of the deferred recalls, in ascending pin record index (R174). -/
def deferredAcks (s : State) : List RecallAck := (List.finRange 4).flatMap (deferredAck s)

/-- The state after a visit's action, when the cursor has advanced by one way (R142). Past way 3 of set 1023
the scan has ended: FINISHING with write-backs outstanding, else the drain has completed with its reply
(R146). -/
def scanned (s : State) : State :=
  if s.drain.cursorWay ≠ 3 then { s with drain := { s.drain with cursorWay := s.drain.cursorWay + 1 } }
  else
    let d : Drain := { s.drain with cursorSet := s.drain.cursorSet + 1, cursorWay := 0 }
    if s.drain.cursorSet ≠ 1023 then { s with drain := d }
    else if 0 < d.outstanding then { s with drain := { d with st := .finishing } }
    else { s with
      drain := { d with st := .idle, waiting := false, aborted := false, pendingReply := none }
      egress := egressAfter s (drainReplies d (if d.aborted then .aborted else .ok)) }

/-- The drain record after a traffic reset or far link loss (R149): a running drain has ended. -/
def drainStopped (d : Drain) : Drain :=
  if d.st = .idle then d
  else { d with st := .idle, waiting := false, aborted := false, outstanding := 0, pendingReply := none }

/-- The reply that a traffic reset or far link loss gives to a running drain's command (R149). -/
def drainStopReplies (d : Drain) (status : MgmtStatus) : List NearPacket :=
  if d.st = .idle then [] else drainReplies d status

/-- The answer to a request that a traffic reset removes from the ingress queue (R17): a RESPONSE, or a
MGMT_REPLY to a command (without reply fields, log 12). -/
def resetAnswer (p : Packet) : NearPacket :=
  if kindByte p = mgmtCode then .mgmtReply (senderOf p) (requestIdOf p) (commandByte p) .reset .none
  else .response (senderOf p) (requestIdOf p) (kindByte p) .reset []

/-- R33, conditions 1 to 4, over the 16 bytes of R181. -/
def refusedWindow (e : List Byte) : Prop :=
  (byteAt e 1).toNat < 12 ∨ 38 < (byteAt e 1).toNat ∨ (addrAt e 4).toNat % 2 ^ (byteAt e 1).toNat ≠ 0 ∨
    (byteAt e 2).toNat < 1 ∨ 4 < (byteAt e 2).toNat ∨ (byteAt e 3).toNat < 1 ∨ 2 < (byteAt e 3).toNat

/-- R130, conditions 1 to 4, over the 16 bytes of R181. -/
def refusedWatch (e : List Byte) : Prop :=
  12 < (byteAt e 1).toNat ∨ (addrAt e 4).toNat % 2 ^ (byteAt e 1).toNat ≠ 0 ∨
    (byteAt e 2).toNat < 1 ∨ 15 < (byteAt e 2).toNat ∨ (byteAt e 3).toNat < 1 ∨ 3 < (byteAt e 3).toNat

/-- R157, conditions 1 to 6, over the 16 bytes of R181. -/
def refusedConfig (e : List Byte) : Prop :=
  (byteAt e 0 ≠ 3 ∧ byteAt e 0 ≠ 4) ∨ fieldAt e 2 2 < 16 ∨ 65535 < fieldAt e 2 2 ∨ fieldAt e 4 2 < 1 ∨
    1023 < fieldAt e 4 2 ∨ 15 < (byteAt e 1).toNat ∨ 127 < (byteAt e 6).toNat ∨ setAt e 8 = 0

/-! ### The bytes of what departs (R177, R179 to R182) -/

/-- The bytes are of this length, and every field of the list (offset, size in bytes, number) holds its number,
least significant byte first (R177). A number that the field's size does not hold is in none of the ranges of
R179 to R182, and nothing is said of it. -/
def Layout (b : List Byte) (length : Nat) (fields : List (Nat × Nat × Nat)) : Prop :=
  b.length = length ∧ ∀ f ∈ fields, f.2.2 < 256 ^ f.2.1 → fieldAt b f.1 f.2.1 = f.2.2

/-- The value of bit `k` of a field. -/
def bitIf (k : Nat) (set : Bool) : Nat := if set then 2 ^ k else 0

/-- The header fields of a far request (R180). -/
def farFields (kind : Nat) (tag : Tag) (qualifier len : Nat) (addr : Addr) : List (Nat × Nat × Nat) :=
  [(0, 1, kind), (1, 1, tag.val), (2, 1, qualifier), (3, 1, len), (4, 6, addr.toNat), (10, 6, 0)]

/-- R180: a far request's 16-byte header and its payload. (Of the bits of the last mask byte beyond the mask
nothing is said, log 22.) -/
def FarRequestLayout : FarRequest → Packet → Prop
  | .fetchS tag line, b => Layout b 16 (farFields 1 tag 0 0 line)
  | .fetchX tag line, b => Layout b 16 (farFields 2 tag 0 0 line)
  | .upgrade tag line, b => Layout b 16 (farFields 3 tag 0 0 line)
  | .writeback tag line .keep data, b => Layout b 80 (farFields 4 tag 1 0 line) ∧ b.drop 16 = data.toList
  | .writeback tag line .drop data, b => Layout b 80 (farFields 4 tag 2 0 line) ∧ b.drop 16 = data.toList
  | .ucRead tag addr len, b => Layout b 16 (farFields 5 tag 0 len addr)
  | .ucWrite tag addr len mask data, b =>
    Layout b (16 + (mask.length + 7) / 8 + data.length) (farFields 6 tag 0 len addr) ∧
      (∀ i bit, mask[i]? = some bit → (byteAt b (16 + i / 8)).getLsbD (i % 8) = bit) ∧
      b.drop (16 + (mask.length + 7) / 8) = data
  | .farAtomic tag addr (.add v), b => Layout b 24 (farFields 7 tag 1 0 addr ++ [(16, 8, v.toNat)])
  | .farAtomic tag addr (.swap v), b => Layout b 24 (farFields 7 tag 2 0 addr ++ [(16, 8, v.toNat)])
  | .farAtomic tag addr (.cas v w), b =>
    Layout b 32 (farFields 7 tag (128 + 3) 0 addr ++ [(16, 8, v.toNat), (24, 8, w.toNat)])

/-- R180: a RECALL_ACK's 4-byte header, and the line's 64 bytes with DIRTY. -/
def RecallAckLayout (a : RecallAck) (b : Packet) : Prop :=
  match a.status with
  | .notHeld => Layout b 4 [(0, 1, 1), (1, 1, a.id.toNat), (2, 2, 0)]
  | .clean => Layout b 4 [(0, 1, 2), (1, 1, a.id.toNat), (2, 2, 0)]
  | .dirty data => Layout b 68 [(0, 1, 3), (1, 1, a.id.toNat), (2, 2, 0)] ∧ b.drop 4 = data.toList
  | .wbInFlight => Layout b 4 [(0, 1, 4), (1, 1, a.id.toNat), (2, 2, 0)]
  | .upgradePending => Layout b 4 [(0, 1, 5), (1, 1, a.id.toNat), (2, 2, 0)]
  | .refused => Layout b 4 [(0, 1, 6), (1, 1, a.id.toNat), (2, 2, 0)]

/-- The codes of R178, R179, R181 and R182 in the order in which their tables list the names. -/
def PacketCodes : Prop :=
  [RequestKind.read, .write, .lockRead, .unlockWrite, .atomic].map RequestKind.code = [1, 2, 3, 4, 5] ∧
  [RespStatus.ok, .retry, .denied, .policy, .malformed, .isolated, .farTimeout, .farFail, .lockBroken, .nestedLock,
    .watchDiscard, .reset].map RespStatus.code = [0, 1, 2, 3, 4, 5, 6, 7, 8, 9, 10, 11] ∧
  [MgmtStatus.ok, .busy, .invalidEntry, .notFound, .empty, .denied, .aborted, .reset, .linkDown, .malformed].map
    MgmtStatus.code = [0, 1, 2, 3, 4, 5, 6, 7, 8, 9] ∧
  [Policy.wb, .rc, .uc, .deny].map Policy.code = [1, 2, 3, 4] ∧
  [DefaultPolicy.uc, .deny].map DefaultPolicy.code = [3, 4] ∧
  [AtomicMode.inCache, .atHome].map AtomicMode.code = [1, 2] ∧
  [WatchAction.count, .capture, .hold].map WatchAction.code = [1, 2, 3] ∧
  [DrainMode.keep, .drop].map DrainMode.code = [1, 2] ∧
  [DrainState.idle, .scanning, .finishing].map DrainState.code = [0, 1, 2] ∧
  [RecallKind.downgrade, .surrender].map RecallKind.code = [1, 2] ∧
  [ResidentState.copy .s, .copy .x, .copy .m, .fill, .copy .upgrade, .copy .cleaning].map ResidentState.code =
    [1, 2, 3, 4, 5, 6] ∧
  [EvictionOrigin.victim, .stale, .drain].map EvictionOrigin.code = [1, 2, 3] ∧
  [RecallPlace.queued, .noted, .deferred].map RecallPlace.code = [1, 2, 3] ∧
  [NoticeKind.farProtocol, .farTimeout, .farFail, .pinExpired, .captureFull, .hold, .linkLoss].map NoticeKind.code =
    [1, 2, 3, 4, 5, 6, 7] ∧
  [NoticeKind.farProtocol, .farTimeout, .farFail, .pinExpired, .captureFull, .hold, .linkLoss].map NoticeKind.bit =
    [0, 1, 2, 3, 4, 5, 6]

/-- R181: a window entry. -/
def WindowLayout (e : WindowEntry) (b : List Byte) : Prop :=
  Layout b 16 [(0, 1, bitIf 0 e.valid), (1, 1, e.exponent), (2, 1, e.policy.code.toNat),
    (3, 1, e.atomicMode.code.toNat), (4, 6, e.base.toNat), (10, 2, e.readMask.toNat), (12, 2, e.writeMask.toNat),
    (14, 2, 0)]

/-- R181: a watch entry. -/
def WatchLayout (e : WatchEntry) (b : List Byte) : Prop :=
  Layout b 16 [(0, 1, bitIf 0 e.enable), (1, 1, e.exponent), (2, 1, e.kinds.toNat), (3, 1, e.action.code.toNat),
    (4, 6, e.base.toNat), (10, 2, e.mask.toNat), (12, 4, e.hits)]

/-- R181: the configuration record. -/
def ConfigLayout (c : ConfigRecord) (b : List Byte) : Prop :=
  Layout b 16 [(0, 1, c.defaultPolicy.code.toNat), (1, 1, c.noticeTarget.val), (2, 2, c.farTimeout),
    (4, 2, c.pinTimeout), (6, 1, c.noticeEnable.toNat), (7, 1, 0), (8, 2, c.managers.toNat), (10, 6, 0)]

/-- R182: the status record. -/
def StatusLayout (r : StatusRecord) (b : List Byte) : Prop :=
  Layout b 16 [(0, 1, bitIf 0 (r.mode == .operating) + bitIf 1 (r.farLink == .up)), (1, 1, r.issued),
      (2, 1, r.orphaned), (3, 1, r.evictions), (4, 1, r.recalls), (5, 1, r.pinsWaiting), (6, 1, r.pinsActive),
      (7, 1, r.holds), (8, 1, r.captures), (9, 1, r.drainState.code.toNat), (10, 2, r.cursorSet),
      (12, 1, r.cursorWay.val), (14, 2, 0)] ∧
    (∀ k : NoticeKind, (byteAt b 13).getLsbD k.bit = decide (k ∈ r.pendingKinds)) ∧
    (byteAt b 13).getLsbD 7 = false

/-- R182: a capture record. -/
def CaptureLayout (c : Capture) (b : List Byte) : Prop :=
  Layout b 16 [(0, 2, c.sequence.toNat), (2, 1, c.requester.val), (3, 1, c.id.toNat), (4, 1, c.kind.code.toNat),
      (5, 1, c.len), (6, 6, c.addr.toNat),
      (13, 1, match c.heldSlot with
        | some i => 128 + i.val
        | none => 0), (14, 2, 0)] ∧
    ∀ i : Fin 8, (byteAt b 12).getLsbD i.val = decide (i ∈ c.matched)

/-- R182: a pin element. -/
def PinLayout (e : PinElement) (b : List Byte) : Prop :=
  Layout b 20 ([(0, 1, e.index.val), (1, 1, e.owner.val), (2, 1, if e.active then 2 else 1),
      (3, 1, bitIf 0 e.loc.isSome + bitIf 1 e.deferred.isSome), (4, 6, e.line.toNat), (13, 2, e.remaining),
      (17, 3, 0)] ++
    (match e.loc with
      | some l => [(10, 2, l.set.val), (12, 1, l.way.val)]
      | none => [(10, 3, 0)]) ++
    (match e.deferred with
      | some r => [(15, 1, r.id.toNat), (16, 1, r.kind.code.toNat)]
      | none => [(15, 2, 0)]))

/-- Bytes 15 and 16 of a probe record (R182), for the kinds that a probe reports (R161). -/
def lineKindFields : TxnKind → List (Nat × Nat × Nat)
  | .fetchS _ _ => [(15, 1, 1), (16, 1, 0)]
  | .fetchX _ _ => [(15, 1, 2), (16, 1, 0)]
  | .upgrade _ _ copyLost => [(15, 1, 3), (16, 1, bitIf 1 copyLost)]
  | .writebackKeep _ _ => [(15, 1, 4), (16, 1, 1)]
  | .writebackDrop _ _ => [(15, 1, 4), (16, 1, 0)]
  | _ => []

/-- R182: the probe record, each group sent as 0 where it is absent. -/
def ProbeLayout (r : ProbeRecord) (b : List Byte) : Prop :=
  Layout b 24 ([(0, 6, r.line.toNat),
      (6, 1, bitIf 0 r.resident.isSome + bitIf 1 r.eviction.isSome + bitIf 2 r.txn.isSome + bitIf 3 r.pin.isSome +
        bitIf 4 r.unacked.isSome), (22, 2, 0)] ++
    (match r.resident with
      | some v => [(7, 1, v.st.code.toNat), (8, 2, v.loc.set.val), (10, 1, v.loc.way.val), (11, 1, v.lruPosition)]
      | none => [(7, 5, 0)]) ++
    (match r.eviction with
      | some (i, origin) => [(12, 1, i.val), (13, 1, origin.code.toNat)]
      | none => [(12, 2, 0)]) ++
    (match r.txn with
      | some (tag, kind) => (14, 1, tag.val) :: lineKindFields kind
      | none => [(14, 3, 0)]) ++
    (match r.pin with
      | some (i, .waiting _) => [(17, 1, i.val), (18, 1, 1)]
      | some (i, .active _ _ _) => [(17, 1, i.val), (18, 1, 2)]
      | none => [(17, 2, 0)]) ++
    (match r.unacked with
      | some (v, place) => [(19, 1, v.id.toNat), (20, 1, v.kind.code.toNat), (21, 1, place.code.toNat)]
      | none => [(19, 3, 0)]))

/-- R182: a notice's detail, an absent field sent as 0. -/
def DetailLayout (d : NoticeDetail) (b : List Byte) : Prop :=
  Layout b 16 [(0, 6, (d.addr.map BitVec.toNat).getD 0), (6, 1, (d.tag.map BitVec.toNat).getD 0),
    (7, 1, (d.recallId.map BitVec.toNat).getD 0), (8, 1, (d.requester.map Fin.val).getD 0),
    (9, 1, (d.requestId.map BitVec.toNat).getD 0), (10, 1, (d.kind.map fun k => k.code.toNat).getD 0),
    (11, 1, (d.slot.map Fin.val).getD 0), (12, 2, d.lines.getD 0),
    (14, 1, bitIf 0 d.addr.isSome + bitIf 1 d.tag.isSome + bitIf 2 d.recallId.isSome +
      bitIf 3 d.requester.isSome + bitIf 4 d.requestId.isSome + bitIf 5 d.kind.isSome + bitIf 6 d.slot.isSome +
      bitIf 7 d.lines.isSome), (15, 1, 0)]

/-- R179: the reply fields of a MGMT_REPLY. -/
def ReplyLayout : ReplyFields → List Byte → Prop
  | .none, b => b = []
  | .window e, b => WindowLayout e b
  | .watch e, b => WatchLayout e b
  | .config c, b => ConfigLayout c b
  | .status r, b => StatusLayout r b
  | .probe r, b => ProbeLayout r b
  | .pins l, b => Layout b (1 + 20 * l.length) [(0, 1, l.length)] ∧
      ∀ i e, l[i]? = some e → PinLayout e ((b.drop (1 + 20 * i)).take 20)
  | .drain r, b => Layout b 12 [(0, 1, r.mode.code.toNat), (1, 2, r.writtenBack), (3, 2, r.invalidated),
      (5, 2, r.skippedPinned), (7, 2, r.failed), (9, 2, r.cursorSet), (11, 1, r.cursorWay.val)]
  | .capture c left, b => CaptureLayout c (b.take 16) ∧ Layout b 17 [(16, 1, left)]
  | .held requester id, b => Layout b 2 [(0, 1, requester.val), (1, 1, id.toNat)]
  | .brokenPin owner line, b => Layout b 7 [(0, 1, owner.val), (1, 6, line.toNat)]
  | .discarded lines, b => Layout b 2 [(0, 2, lines)]

/-- R179: a departing packet's 8-byte header and its payload. -/
def NearPacketLayout : NearPacket → Packet → Prop
  | .response dest id kind status data, b =>
    Layout b (8 + data.length) [(0, 1, 129), (1, 1, dest.val), (2, 1, id.toNat), (3, 1, kind.toNat),
      (4, 1, status.code.toNat), (5, 1, data.length), (6, 2, 0)] ∧ b.drop 8 = data
  | .mgmtReply dest id command status fields, b =>
    Layout b (8 + (b.drop 8).length) [(0, 1, 130), (1, 1, dest.val), (2, 1, id.toNat), (3, 1, command.toNat),
      (4, 1, status.code.toNat), (5, 1, 0), (6, 2, (b.drop 8).length)] ∧ ReplyLayout fields (b.drop 8)
  | .credit dest, b => Layout b 8 [(0, 1, 131), (1, 1, dest.val), (2, 6, 0)]
  | .notice dest n, b =>
    Layout b 24 [(0, 1, 132), (1, 1, dest.val), (2, 1, 0), (3, 1, n.kind.code.toNat), (4, 1, n.count), (5, 3, 0)] ∧
      DetailLayout n.detail (b.drop 8)

/-! ### What a probe reports -/

/-- R161: what a probe record says of the line. The recall part is for a state with at most one
unacknowledged recall for the line (R92). -/
def ProbeReports (s : State) (line : Addr) (r : ProbeRecord) : Prop :=
  r.line = line ∧
  (s.lookup line = none → r.resident = none) ∧
  (∀ loc, s.lookup line = some loc → loc.way ∈ (readSet s.dir loc.set).lru → ∃ v, r.resident = some v ∧
    v.loc = loc ∧ (readSet s.dir loc.set).lru[v.lruPosition]? = some loc.way ∧
    (s.wayAt loc = .fill line → v.st = .fill) ∧
    ∀ st data, s.wayAt loc = .copy st line data → v.st = .copy st) ∧
  (∀ i v, s.eb[i] = some v → v.line = line → (∀ j < i, ∀ u ∈ s.eb[j], u.line ≠ line) →
    r.eviction = some (i, v.origin)) ∧
  ((∀ i : Fin 4, ∀ v ∈ s.eb[i], v.line ≠ line) → r.eviction = none) ∧
  (∀ g t, s.txns[g] = .issued t → t.kind.line? = some line →
    (∀ h < g, ∀ u ∈ TxnEntry.txn? s.txns[h], u.kind.line? ≠ some line) → r.txn = some (g, t.kind)) ∧
  ((∀ g : Tag, ∀ t ∈ TxnEntry.txn? s.txns[g], t.kind.line? ≠ some line) → r.txn = none) ∧
  (∀ i v, s.pins[i] = some v → v.line = line → (∀ j < i, ∀ u ∈ s.pins[j], u.line ≠ line) →
    r.pin = some (i, v.st)) ∧
  ((∀ i : Fin 4, ∀ v ∈ s.pins[i], v.line ≠ line) → r.pin = none) ∧
  ((s.unacknowledged.map RecallRecord.line).Nodup →
    (∀ v ∈ s.recallQueue, v.line = line → r.unacked = some (v, .queued)) ∧
    (∀ v ∈ s.notedRecalls, v.line = line → r.unacked = some (v, .noted)) ∧
    (∀ v ∈ s.deferredRecalls, v.line = line → r.unacked = some (v, .deferred)) ∧
    ((∀ v ∈ s.unacknowledged, v.line ≠ line) → r.unacked = none))

end Sys2Proof.Safety
end

