-- ==== Sys2Proof/Certificates/Slice0/Obligations.lean ====
section
/-! DEFINITION. The statements for the provers. Each says in its docstring which rule of spec/ it formalises;
where it rests on a choice of the model, it names the log entry. -/

open Sys2Proof Sys2Proof.Machine Sys2Proof.Safety

/-! ## The machine -/

/-- A step takes the command at the front of the queue and runs it on the state with the queue's rest (the
queue is the model's, log 5). -/
def Obligations.StepRunsTheFrontCommand : Prop :=
  ∀ (c : Instr) (rest : List Instr) (s : State),
    step { s with pending := c :: rest } = exec c { s with pending := rest }

/-- Every command completes: none faults, none is refused. It leaves the queue, and, but for COLD_RESET, the
present time as they are (R183: "Every event is taken at the present time as it then stands"). That a command
whose trigger is absent completes with no effect, and the queue, are the model's (logs 1 and 5). -/
def Obligations.EveryCommandCompletes : Prop :=
  ∀ (c : Instr) (s : State),
    ∃ t, exec c s = .next t ∧ t.pending = s.pending ∧ (c ≠ .coldReset → t.now = s.now)

/-- R183 with logs 2 and 3: on an empty queue the step ends the microsecond. It is the expiries in the model's
order, TRANSACTION_EXPIRY by ascending tag, PIN_EXPIRY by ascending record index and NOTICE_INTERVAL_END, each the
command of its name, and then the rise of the present time by one; no timer whose deadline has been reached is
left. -/
def Obligations.NoTimerOutlivesItsMicrosecond : Prop :=
  ∀ s : State, s.pending = [] → ∃ t, Follows expiries s t ∧ step s = .next { t with now := s.now + 1 } ∧
    (∀ g : Tag, ∀ d ∈ TxnEntry.deadline? t.txns[g], s.now < d) ∧
    (∀ i : Fin 4, ∀ p ∈ t.pins[i], ∀ d ∈ Pin.deadline? p, s.now < d) ∧
    ∀ d ∈ t.noticeInterval, s.now < d

/-- R176 with the reset values of R17, R20, R54, R88, R92, R112, R129, R132, R136, R140, R156, R166 and R171:
a cold reset sets every block to its reset values and sends nothing. The last
clause is the model's own: the record of what has departed stays (logs 6 and 19). The present time after a cold
reset is the model's choice too (log 4) and is not stated. -/
def Obligations.ColdResetSetsEveryBlock : Prop :=
  ∀ s : State, ∃ t, exec .coldReset s = .next t ∧
    (t.nearLink = .down ∧ (∀ r : Requester, t.credits[r] = 0) ∧ t.ingress = [] ∧ t.egress = [] ∧
      t.noticeInterval = none) ∧
    ((∀ i : Fin 8, t.watch[i] =
        { enable := false, base := 0, exponent := 0, kinds := 15, mask := 0, action := .count, hits := 0 }) ∧
      t.captures = [] ∧ t.nextSeq = 0 ∧ ∀ i : Fin 4, t.holds[i] = none) ∧
    (∀ i : Fin 32, t.windows[i] =
      { valid := false, base := 0, exponent := 12, policy := .deny, atomicMode := .atHome, readMask := 0,
        writeMask := 0 }) ∧
    (∀ i : Fin 1024, (∀ w : Fin 4, (readSet t.dir i).ways[w] = .i) ∧
      (readSet t.dir i).lru = [0, 1, 2, 3]) ∧
    ((∀ g : Tag, t.txns[g] = .free) ∧ ∀ i : Fin 4, t.eb[i] = none) ∧
    (t.farLink = .down ∧ t.reqCh = [] ∧ t.ackCh = [] ∧ t.respCh = [] ∧ t.recallCh = []) ∧
    (t.recallQueue = [] ∧ t.recallCount = 0 ∧ ∀ i : Fin 4, t.pins[i] = none) ∧
    t.drain =
      { st := .idle, mode := .keep, cursorSet := 0, cursorWay := 0, waiting := false, writtenBack := 0,
        invalidated := 0, skippedPinned := 0, failed := 0, outstanding := 0, aborted := false,
        pendingReply := none } ∧
    (t.config =
        { defaultPolicy := .deny, farTimeout := 4096, pinTimeout := 64, noticeTarget := 0,
          noticeEnable := 127, managers := 1 } ∧
      t.mode = .isolated ∧ t.notices = []) ∧
    t.wireNear = s.wireNear ∧ t.wireRequest = s.wireRequest ∧ t.wireAck = s.wireAck

/-! ## Laws that every step keeps -/

/-- The reset state meets every law stated below (R176). -/
def Obligations.ResetMeetsTheLaws : Prop :=
  DirectoryForm State.reset ∧ CreditForm State.reset ∧ CaptureForm State.reset ∧ NoticeForm State.reset ∧
    TablesForm State.reset ∧ ModeForm State.reset ∧ PinForm State.reset ∧ DrainForm State.reset ∧
    TimerForm State.reset ∧ Coherent State.reset

/-- R40: "For every set, the LRU order list holds each of the four way numbers exactly once"; with it the
directory keeps its one form (log 20). -/
def Obligations.StepsKeepTheLruOrder : Prop :=
  ∀ s t : State, DirectoryForm s → step s = .next t → DirectoryForm t

/-- R6 and R8: "While the near link is up, each requester's credits plus its requests in the ingress queue
equal 4", so that the queue never needs more than its 64 entries; while the link is DOWN nothing is queued or
produced (R15, R16, R17; log 9). -/
def Obligations.StepsKeepTheCreditBalance : Prop :=
  ∀ s : State, CreditForm s →
    s.ingress.length ≤ 64 ∧ ∀ t, step s = .next t → CreditForm t

/-- R132 and R163: the capture queue's bound and consecutive sequence numbers, the notice set's one notice
per kind and counts from 1 to 255, kept by every step; and how an occurrence is recorded: one of a kind that is
not enabled is not recorded; one of an enabled kind enters at the end with its detail and count 1, or raises the
pending notice's count by one, up to 255, keeping its detail and place. -/
def Obligations.StepsKeepCapturesAndNotices : Prop :=
  (∀ s t : State, CaptureForm s ∧ NoticeForm s → step s = .next t → CaptureForm t ∧ NoticeForm t) ∧
  (∀ (enabled : BitVec 7) (kind : NoticeKind) (detail : NoticeDetail) (set : List Notice),
    (enabled.getLsbD kind.bit = false → recordOccurrence enabled kind detail set = set) ∧
    (enabled.getLsbD kind.bit = true → (∀ n ∈ set, n.kind ≠ kind) →
      recordOccurrence enabled kind detail set = set ++ [{ kind := kind, detail := detail, count := 1 }]) ∧
    (∀ before n after, enabled.getLsbD kind.bit = true → set = before ++ n :: after → n.kind = kind →
      (∀ m ∈ before ++ after, m.kind ≠ kind) → n.count ≤ 255 →
      recordOccurrence enabled kind detail set =
        before ++ { n with count := min 255 (n.count + 1) } :: after)) ∧
  [NoticeKind.farProtocol, .farTimeout, .farFail, .pinExpired, .captureFull, .hold, .linkLoss].map
    NoticeKind.bit = [0, 1, 2, 3, 4, 5, 6]

/-- R19, R128, R156: every table entry stays within its ranges. -/
def Obligations.StepsKeepTheTablesValid : Prop :=
  ∀ s t : State, TablesForm s → step s = .next t → TablesForm t

/-- R166, R171: the device operates only over an UP far link, and an ISOLATED device holds no line, no
transaction, no buffered line and no pin. -/
def Obligations.StepsKeepIsolationEmpty : Prop :=
  ∀ s t : State, ModeForm s → step s = .next t → ModeForm t

/-- R140: the drain record's outstanding count is the number of ISSUED write-backs of origin DRAIN, and each
drain state goes with the fields R140 gives it. -/
def Obligations.StepsKeepTheDrainAccount : Prop :=
  ∀ s t : State, DrainForm s → step s = .next t → DrainForm t

/-- R183 with R66, R115 and R18: no timer runs past its deadline, none runs longer than its range (the tick
is the model's, log 2). -/
def Obligations.StepsKeepTimersAhead : Prop :=
  ∀ s t : State, TimerForm s ∧ TablesForm s → step s = .next t → TimerForm t

/-- R35, R36, R38, R39, R41, R47, R58 to R61, R92, R97, R112 and R117: every step keeps the directory, the
transaction table, the eviction buffer, the pin table and the recall unit in agreement with one another, and
every waiter list within its bound: 8 waiters, one in an entry that goes home uncached or atomic, none in a
WRITEBACK. -/
def Obligations.StepsKeepCoherence : Prop :=
  ∀ s t : State, Coherent s → step s = .next t → Coherent t

/-! ## Rules of the whole part: what only some commands change -/

/-- R20 and R156: the window table changes only by WRITE_ENTRY of table WINDOW and COLD_RESET, the
configuration record only by WRITE_ENTRY of table CONFIG and COLD_RESET. -/
def Obligations.TablesChangeOnlyByTheirWrites : Prop :=
  ∀ (c : Instr) (s t : State), exec c s = .next t → c ≠ .coldReset →
    (c ≠ .writeEntryWindow → t.windows = s.windows) ∧ (c ≠ .writeEntryConfig → t.config = s.config)

/-- R166, R16, R17, R169, R171: the device mode changes only by REATTACH, far link loss and COLD_RESET; each
link state only by that link's reports and COLD_RESET. -/
def Obligations.ModeAndLinksChangeOnlyByTheirEvents : Prop :=
  ∀ (c : Instr) (s t : State), exec c s = .next t → c ≠ .coldReset →
    (c ≠ .reattach → c ≠ .farLinkDown → t.mode = s.mode) ∧
    (c ≠ .nearLinkDown → c ≠ .nearLinkUp → t.nearLink = s.nearLink) ∧
    (c ≠ .farLinkDown → c ≠ .farLinkUp → t.farLink = s.farLink)

/-- R128 to R134: but for COLD_RESET, a watch entry's fields change only by WRITE_ENTRY of table WATCH; its
hit count changes otherwise only at the admission of a memory request, where it rises by at most one; the
capture queue changes only there and by POP_CAPTURE, the next sequence number only there. -/
def Obligations.WatchStateChangesOnlyAtWatchChecks : Prop :=
  ∀ (c : Instr) (s t : State), exec c s = .next t → c ≠ .coldReset →
    (c ≠ .writeEntryWatch → ∀ i : Fin 8,
      (t.watch[i] = s.watch[i] ∨ t.watch[i] = { s.watch[i] with hits := s.watch[i].hits + 1 }) ∧
      ((∀ k, c ≠ requestStep k) → t.watch[i] = s.watch[i])) ∧
    ((∀ k, c ≠ requestStep k) → c ≠ .popCapture → t.captures = s.captures) ∧
    ((∀ k, c ≠ requestStep k) → t.nextSeq = s.nextSeq)

/-- R15 and R62: packets are only ever appended to the egress, the request channel and the ack channel, but
for the departures, the loss of the link concerned and COLD_RESET (logs 6 and 21). -/
def Obligations.ProducedPacketsKeepTheirOrder : Prop :=
  ∀ (c : Instr) (s t : State), exec c s = .next t → c ≠ .coldReset →
    (c ≠ .egressDeparture → c ≠ .nearLinkDown → ∃ l, t.egress = s.egress ++ l) ∧
    (c ≠ .farPacketDeparture .request → c ≠ .farLinkDown → ∃ l, t.reqCh = s.reqCh ++ l) ∧
    (c ≠ .farPacketDeparture .ack → c ≠ .farLinkDown → ∃ l, t.ackCh = s.ackCh ++ l)

/-! ## The requester port and admission -/

/-- R6 and R7: an arriving packet of a requester with a credit takes the credit and joins the queue; one of a
requester without is discarded, and nothing else changes. -/
def Obligations.PacketArrivalTakesACredit : Prop :=
  ∀ (p : Packet) (s : State), s.nearLink = .up →
    (0 < s.credits[senderOf p] →
      exec (.packetArrival p) s = .next { s with
        ingress := s.ingress ++ [p]
        credits := upd s.credits (senderOf p) (s.credits[senderOf p] - 1) }) ∧
    (s.credits[senderOf p] = 0 → exec (.packetArrival p) s = .next s)

/-- R10 and R3: which packets the form check refuses, by their kind, and what a packet that passes it asks
(R178); a memory request that fails the form check, and a request of unknown kind, returns its credit and is
answered MALFORMED with its kind as it arrived; a management command that fails it is answered with a MGMT_REPLY
of status MALFORMED. Nothing else changes. -/
def Obligations.MalformedRequestsAreAnswered : Prop :=
  (∀ (p : Packet) (k : RequestKind), kindByte p = k.code →
    (parseRequest p = none ↔ RequestRefused p k)) ∧
  (∀ (p : Packet) (q : Request), parseRequest p = some q →
    q.requester = senderOf p ∧ q.id = requestIdOf p ∧ q.addr = addrAt p 4 ∧ kindByte p = q.body.kind.code ∧
      (q.body.kind ≠ .atomic → q.body.len = (byteAt p 3).toNat) ∧
      (∀ len mask bytes, q.body = .write len mask bytes ∨ q.body = .unlockWrite len mask bytes →
        mask.length = len ∧ bytes = (payloadOf p).drop ((len + 7) / 8) ∧
          ∀ i < len, mask[i]? = some ((byteAt (payloadOf p) (i / 8)).getLsbD (i % 8))) ∧
      (∀ v, q.body = .atomic (.add v) →
        commandByte p = 1 ∧ v = BitVec.ofNat 64 (fieldAt (payloadOf p) 0 8)) ∧
      (∀ v, q.body = .atomic (.swap v) →
        commandByte p = 2 ∧ v = BitVec.ofNat 64 (fieldAt (payloadOf p) 0 8)) ∧
      (∀ v w, q.body = .atomic (.cas v w) → commandByte p = 3 ∧
        v = BitVec.ofNat 64 (fieldAt (payloadOf p) 0 8) ∧ w = BitVec.ofNat 64 (fieldAt (payloadOf p) 8 8))) ∧
  (∀ p : Packet, commandWellFormed p = false ↔ CommandRefused p) ∧
  ∀ (s : State) (p : Packet) (rest : List Packet), s.nearLink = .up → s.ingress = p :: rest →
    (∀ k : RequestKind, kindByte p = k.code → parseRequest p = none →
      exec (requestStep k) s = .next { credited s p rest with
        egress := s.egress ++ [.credit (senderOf p),
          .response (senderOf p) (requestIdOf p) (kindByte p) .malformed []] }) ∧
    (unknownKind (kindByte p) = true →
      exec .unknownKindRequest s = .next { credited s p rest with
        egress := s.egress ++ [.credit (senderOf p),
          .response (senderOf p) (requestIdOf p) (kindByte p) .malformed []] }) ∧
    (kindByte p = mgmtCode → commandWellFormed p = false →
      exec (managementStep p) s = .next (replying (credited s p rest) p .malformed))

/-- R12, R13, R21 to R25 and R30: the first window entry from index 0 upward that contains the address decides,
else the default window; READ needs the read right, the other kinds the write right; which requests are subject
to copy removal; which UNLOCK_WRITE is exempt. A request to a line on which its requester has a held request is
answered RETRY; one that meets the mode check in ISOLATED is answered ISOLATED. At the window check, where it
comes from the ingress queue, uncaptured or captured, or from RELEASE_HOLD, an exempt UNLOCK_WRITE apart, DENY
and a missing right answer DENIED, and a LOCK_READ under another policy than WB POLICY. Past the held-request
check the hit counts are raised (R131). Nothing else changes. -/
def Obligations.AdmissionRefuses : Prop :=
  (∀ (s : State) (a : Addr),
    (∀ i : Fin 32, Covers s.windows[i] a → (∀ j < i, ¬ Covers s.windows[j] a) → s.treatmentOf a =
      { policy := s.windows[i].policy, atomicMode := s.windows[i].atomicMode,
        readMask := s.windows[i].readMask, writeMask := s.windows[i].writeMask }) ∧
    ((∀ i : Fin 32, ¬ Covers s.windows[i] a) → s.treatmentOf a =
      { policy := match s.config.defaultPolicy with
          | .uc => .uc
          | .deny => .deny
        atomicMode := .atHome, readMask := 65535, writeMask := 65535 })) ∧
  (∀ (t : Treatment) (q : Request),
    (q.body.kind = .read → t.permits q = t.readMask.getLsbD q.requester.val) ∧
    (q.body.kind ≠ .read → t.permits q = t.writeMask.getLsbD q.requester.val) ∧
    (t.removesCopy q.body = true ↔
      (t.policy = .uc ∧ (q.body.kind = .read ∨ q.body.kind = .write ∨ q.body.kind = .atomic)) ∨
      (t.policy = .rc ∧ (q.body.kind = .write ∨ q.body.kind = .atomic)) ∨
      (t.policy = .wb ∧ t.atomicMode = .atHome ∧ q.body.kind = .atomic))) ∧
  (∀ (s : State) (q : Request),
    (s.exempt q = true ↔ q.body.kind = .unlockWrite ∧
      ∃ i : Fin 4, ∃ v ∈ s.pins[i], v.isActive = true ∧ v.owner = q.requester ∧ v.line = lineOf q.addr) ∧
    (s.heldOnLine q.requester (lineOf q.addr) = true ↔
      ∃ i : Fin 4, ∃ h ∈ s.holds[i], h.requester = q.requester ∧ lineOf h.addr = lineOf q.addr)) ∧
  (∀ (s : State) (p : Packet) (rest : List Packet) (q : Request), TakesRequest s p rest q →
    (s.heldOnLine q.requester (lineOf q.addr) = true →
      exec (requestStep q.body.kind) s = .next (responding (credited s p rest) q .retry)) ∧
    (s.heldOnLine q.requester (lineOf q.addr) = false → s.matchesWith q .capture = false →
      s.matchesWith q .hold = false → s.mode = .isolated →
      exec (requestStep q.body.kind) s = .next (responding (counted s p rest q) q .isolated))) ∧
  ∀ (q : Request) (c : Instr) (s u : State) (done : State → State), ComesToWindow q c s u done →
    u.exempt q = false →
    ((u.treatmentOf q.addr).policy = .deny → exec c s = .next (done (responding u q .denied))) ∧
    ((u.treatmentOf q.addr).policy ≠ .deny → (u.treatmentOf q.addr).permits q = false →
      exec c s = .next (done (responding u q .denied))) ∧
    ((u.treatmentOf q.addr).policy ≠ .deny → (u.treatmentOf q.addr).permits q = true →
      q.body.isLockRead = true → (u.treatmentOf q.addr).policy ≠ .wb →
      exec c s = .next (done (responding u q .policy)))

/-- R131, R133 and R135: an enabled entry matches a request whose byte range has a byte in common with its
region, whose kind is among its access kinds, both lock kinds counting as LOCK, and whose requester is in its
mask; a match raises its hit count by one, up to 2^32 - 1. A request that a CAPTURE or HOLD entry matches is
captured, or its capture is lost with CAPTURE_FULL raised when 16 records are queued. A request that a HOLD entry
matches is placed in the free slot of lowest index, unanswered, with HOLD raised, or answered RETRY when all four
slots are held; one that no HOLD entry matches goes on to the mode check: answered ISOLATED there, or, in
OPERATING, on to the window check. -/
def Obligations.WatchEntriesCaptureAndHold : Prop :=
  (∀ (e : WatchEntry) (q : Request), 1 ≤ q.body.len →
    (e.matches q = true ↔ e.enable = true ∧ (∃ b, CommonByte e q b) ∧
      e.kinds.getLsbD (match q.body.kind with
        | .read => 0
        | .write => 1
        | .lockRead => 2
        | .unlockWrite => 2
        | .atomic => 3) = true ∧ e.mask.getLsbD q.requester.val = true)) ∧
  (∀ e : WatchEntry, e.hits ≤ 4294967295 → e.hit = { e with hits := min 4294967295 (e.hits + 1) }) ∧
  (∀ (s : State) (q : Request) (a : WatchAction), s.matchesWith q a = true ↔
    ∃ i : Fin 8, s.watch[i].matches q = true ∧ s.watch[i].action = a) ∧
  ∀ (s : State) (p : Packet) (rest : List Packet) (q : Request), TakesRequest s p rest q →
    s.heldOnLine q.requester (lineOf q.addr) = false →
    (∀ i : Fin 4, s.matchesWith q .hold = true → s.freeHold = some i →
      exec (requestStep q.body.kind) s = .next (noticed
        { captured (counted s p rest q) (captureOf s q (some i)) (captureLost q) with
          holds := upd s.holds i (some q) }
        .hold { requester := some q.requester, addr := some q.addr, slot := some i })) ∧
    (s.matchesWith q .hold = true → s.freeHold = none →
      exec (requestStep q.body.kind) s = .next (responding
        (captured (counted s p rest q) (captureOf s q none) (captureLost q)) q .retry)) ∧
    (s.matchesWith q .hold = false → s.matchesWith q .capture = true →
      (s.mode = .isolated → exec (requestStep q.body.kind) s = .next (responding
        (captured (counted s p rest q) (captureOf s q none) (captureLost q)) q .isolated)) ∧
      (s.mode = .operating → exec (requestStep q.body.kind) s = .next
        ((captured (counted s p rest q) (captureOf s q none) (captureLost q)).windowCheck q))) ∧
    (s.matchesWith q .hold = false → s.matchesWith q .capture = false → s.mode = .operating →
      exec (requestStep q.body.kind) s = .next ((counted s p rest q).windowCheck q))

/-- R49: the victim of a miss is the way nearest the back of the LRU order list that is I; with none in I,
the one nearest the back that is S, X or M and not pinned; with none of either, there is no victim. -/
def Obligations.VictimIsNearestTheBack : Prop :=
  ∀ (s : State) (set : Fin 1024) (front back : List (Fin 4)) (v : Fin 4),
    ((readSet s.dir set).lru = front ++ v :: back → (readSet s.dir set).ways[v] = .i →
      (∀ u ∈ back, (readSet s.dir set).ways[u] ≠ .i) →
      s.victim set = some { set := set, way := v }) ∧
    ((readSet s.dir set).lru = front ++ v :: back →
      (∀ u ∈ (readSet s.dir set).lru, (readSet s.dir set).ways[u] ≠ .i) →
      (readSet s.dir set).ways[v].isStable = true → s.pinned { set := set, way := v } = false →
      (∀ u ∈ back, (readSet s.dir set).ways[u].isStable = false ∨
        s.pinned { set := set, way := u } = true) →
      s.victim set = some { set := set, way := v }) ∧
    ((∀ u ∈ (readSet s.dir set).lru, (readSet s.dir set).ways[u] ≠ .i ∧
        ((readSet s.dir set).ways[u].isStable = false ∨ s.pinned { set := set, way := u } = true)) →
      s.victim set = none)

/-! ## Requests at the directory -/

/-- R43: a READ that finds its line in S, X, M or CLEANING, or in UPGRADE with no WRITE or ATOMIC of its
requester in the waiter list, is answered OK at once with the bytes of its byte range, and the way moves to the
front of its LRU order list; and so is a held READ when RELEASE_HOLD releases it (R14, R137). Nothing else of the
part changes but what its admission has changed (R6, R131, R133). -/
def Obligations.ReadsAreServed : Prop :=
  ∀ (q : Request) (c : Instr) (s u : State) (done : State → State) (len : Nat) (loc : Loc) (st : CopyState)
    (data : LineData),
    ComesToWindow q c s u done → q.body = .read len → ReachesDirectory u q → Unobstructed u q →
    dirWf u.dir = true → Resident u (lineOf q.addr) loc st data →
    (st = .upgrade → ∀ e, u.fetchOf loc = some e → ¬ WaitsToWrite q.requester e.2.waiters) →
    ∃ d, SetBecomes u.dir d loc.set
        { readSet u.dir loc.set with lru := toFront loc.way (readSet u.dir loc.set).lru } ∧
      exec c s = .next (done (responding { u with dir := d } q .ok
        (lineBytes data (offsetOf q.addr) len)))

/-- R44, R45 and R2: a WRITE or LOCAL ATOMIC that finds its line in X or M, as it is admitted or as RELEASE_HOLD
releases it, is applied: the masked bytes, or the atomic's 8 bytes, are replaced, the line becomes M, the way moves
to the front, and the answer is OK, with the old value for an ATOMIC. Nothing else of the part changes but what
its admission has changed. What a write does to the bytes of a line, which bytes a read takes, how 8 bytes make a
quantity and what ADD, SWAP and CAS make of it are stated byte by byte. -/
def Obligations.WritesAndAtomicsAreApplied : Prop :=
  (∀ (data : LineData) (off : Nat) (mask : List Bool) (bytes : List Byte) (k : Fin 64),
    (∀ i b, k.val = off + i → mask[i]? = some true → bytes[i]? = some b →
      (writeBytes data off mask bytes)[k] = b) ∧
    ((∀ i, k.val = off + i → mask[i]? = some true → bytes[i]? = none) →
      (writeBytes data off mask bytes)[k] = data[k])) ∧
  (∀ (data : LineData) (off len : Nat), (off + len ≤ 64 → (lineBytes data off len).length = len) ∧
    ∀ i < len, (lineBytes data off len)[i]? = data[off + i]?) ∧
  (∀ (data : LineData) (off : Nat) (v : BitVec 64), off + 8 ≤ 64 →
    (∀ i < 8, data[off + i]? = some ((quantityAt data off).extractLsb' (8 * i) 8)) ∧
    (∀ k : Fin 64, (writeQuantity data off v)[k] =
      if off ≤ k.val ∧ k.val < off + 8 then v.extractLsb' (8 * (k.val - off)) 8 else data[k]) ∧
    (leBytes 8 v.toNat).length = 8 ∧
    ∀ i < 8, (leBytes 8 v.toNat)[i]? = some (v.extractLsb' (8 * i) 8)) ∧
  (∀ old v w : BitVec 64,
    ((AtomicOp.add v).apply old).toNat = (old.toNat + v.toNat) % 18446744073709551616 ∧
    (AtomicOp.swap v).apply old = v ∧
    (old = w → (AtomicOp.cas v w).apply old = v) ∧ (old ≠ w → (AtomicOp.cas v w).apply old = old)) ∧
  ∀ (q : Request) (c : Instr) (s u : State) (done : State → State) (loc : Loc) (st : CopyState)
    (data : LineData),
    ComesToWindow q c s u done → ReachesDirectory u q → Unobstructed u q → dirWf u.dir = true →
    Resident u (lineOf q.addr) loc st data → st = .x ∨ st = .m →
    (∀ len mask bytes, q.body = .write len mask bytes →
      ∃ d, SetBecomes u.dir d loc.set (withWayInFront u loc
          (.copy .m (lineOf q.addr) (writeBytes data (offsetOf q.addr) mask bytes))) ∧
        exec c s = .next (done (responding { u with dir := d } q .ok))) ∧
    (∀ op, q.body = .atomic op →
      ∃ d, SetBecomes u.dir d loc.set (withWayInFront u loc
          (.copy .m (lineOf q.addr) (writeQuantity data (offsetOf q.addr)
            (op.apply (quantityAt data (offsetOf q.addr)))))) ∧
        exec c s = .next (done (responding { u with dir := d } q .ok
          (leBytes 8 (quantityAt data (offsetOf q.addr)).toNat))))

/-- R46 and R115: a LOCK_READ that finds its line in X or M, as it is admitted or as RELEASE_HOLD releases it,
takes the free pin record of lowest index, which becomes ACTIVE on the way with the deadline that the pin timeout
gives now; the way moves to the front, and the answer is OK with the bytes of its byte range. The line state does
not change. -/
def Obligations.LockReadsActivateTheirPin : Prop :=
  ∀ (q : Request) (c : Instr) (s u : State) (done : State → State) (len : Nat) (i : Fin 4) (loc : Loc)
    (st : CopyState) (data : LineData),
    ComesToWindow q c s u done → q.body = .lockRead len → ReachesDirectory u q → Unobstructed u q →
    dirWf u.dir = true → Resident u (lineOf q.addr) loc st data → st = .x ∨ st = .m →
    u.hasPin q.requester = false → u.freePinRecord = some i →
    ∃ d, SetBecomes u.dir d loc.set
        { readSet u.dir loc.set with lru := toFront loc.way (readSet u.dir loc.set).lru } ∧
      exec c s = .next (done (responding { u with
        dir := d
        pins := upd u.pins i (some
          { owner := q.requester, line := lineOf q.addr
            st := .active loc (u.now + u.config.pinTimeout) none }) } q .ok
        (lineBytes data (offsetOf q.addr) len)))

/-- R46, R47, R48, R50, R51 and R114: a LOCK_READ that finds its line in S issues an UPGRADE, one that finds it in
FILL or UPGRADE joins the waiter list, one that misses fetches with FETCH_X, an M victim going home first; in each
case it waits under the pin record of lowest free index, WAITING, with the set and way of its line recorded. With 8
waiters, no FREE tag for the UPGRADE, a line in CLEANING, or a miss without victim or resources it is answered
RETRY, and its reserved record is free again. So too as RELEASE_HOLD releases it. -/
def Obligations.LockReadsWaitUnderTheirPin : Prop :=
  ∀ (q : Request) (c : Instr) (s u : State) (done : State → State) (len : Nat) (i : Fin 4) (loc : Loc)
    (g : Tag),
    ComesToWindow q c s u done → q.body = .lockRead len → ReachesDirectory u q → Unobstructed u q →
    dirWf u.dir = true → u.hasPin q.requester = false → u.freePinRecord = some i →
    (∀ data, Resident u (lineOf q.addr) loc .s data → u.writebackPending (lineOf q.addr) = false →
      (u.freeTag = some g → ∃ d, SetBecomes u.dir d loc.set
          (withWay u loc (.copy .upgrade (lineOf q.addr) data)) ∧
        exec c s = .next (done { u with
          dir := d
          pins := upd u.pins i (some
            { owner := q.requester, line := lineOf q.addr, st := .waiting (some loc) })
          txns := upd u.txns g (issuedNow u (.upgrade (lineOf q.addr) loc false)
            [waiterOf q (.lockRead len i)])
          reqCh := reqChAfter u [.upgrade g (lineOf q.addr)] })) ∧
      (u.freeTag = none → exec c s = .next (done (responding u q .retry)))) ∧
    (∀ data, Resident u (lineOf q.addr) loc .cleaning data →
      exec c s = .next (done (responding u q .retry))) ∧
    (∀ t, u.lookup (lineOf q.addr) = some loc → Way.awaits (u.wayAt loc) = true →
      u.fetchOf loc = some (g, t) →
      (t.waiters.length < 8 → exec c s = .next (done { u with
          pins := upd u.pins i (some
            { owner := q.requester, line := lineOf q.addr, st := .waiting (some loc) })
          txns := upd u.txns g (.issued { t with
            waiters := t.waiters ++ [waiterOf q (.lockRead len i)] }) })) ∧
      (8 ≤ t.waiters.length → exec c s = .next (done (responding u q .retry)))) ∧
    (u.lookup (lineOf q.addr) = none → u.writebackPending (lineOf q.addr) = false →
      (u.victim (setIndex (lineOf q.addr)) = some loc → (u.wayAt loc).isM = false → u.freeTag = some g →
        ∃ d, SetBecomes u.dir d loc.set (withWayInFront u loc (.fill (lineOf q.addr))) ∧
        exec c s = .next (done { u with
          dir := d
          pins := upd u.pins i (some
            { owner := q.requester, line := lineOf q.addr, st := .waiting (some loc) })
          txns := upd u.txns g (issuedNow u (.fetchX (lineOf q.addr) loc) [waiterOf q (.lockRead len i)])
          reqCh := reqChAfter u [.fetchX g (lineOf q.addr)] })) ∧
      (∀ h old data slot, MissEvicts u (lineOf q.addr) loc old data slot g h →
        ∃ d, SetBecomes u.dir d loc.set (withWayInFront u loc (.fill (lineOf q.addr))) ∧
        exec c s = .next (done { u with
          dir := d
          pins := upd u.pins i (some
            { owner := q.requester, line := lineOf q.addr, st := .waiting (some loc) })
          eb := upd u.eb slot (some { line := old, data := data, origin := .victim, tag := g })
          txns := upd (upd u.txns g (issuedNow u (.writebackDrop old slot) []))
            h (issuedNow u (.fetchX (lineOf q.addr) loc) [waiterOf q (.lockRead len i)])
          reqCh := reqChAfter u [.writeback g old .drop data, .fetchX h (lineOf q.addr)] })) ∧
      (MissRefused u (lineOf q.addr) → exec c s = .next (done (responding u q .retry))))

/-- R25, R118 and R119: an UNLOCK_WRITE on its requester's ACTIVE pin, as it is admitted or as RELEASE_HOLD
releases it, is performed whatever its window says: the masked bytes are written, the line becomes M if any mask
bit is set, the record is freed, the answer is OK. A deferred recall is then applied to the line as the write left
it (R102): a DOWNGRADE leaves S, a SURRENDER I, the acknowledgement is DIRTY with the data if the line is M and
CLEAN if it is X. The LRU order list does not change. -/
def Obligations.UnlockWritesEndTheirPin : Prop :=
  ∀ (q : Request) (c : Instr) (s u : State) (done : State → State) (len : Nat) (mask : List Bool)
    (bytes : List Byte) (i : Fin 4) (v : Pin) (loc : Loc) (deadline : Nat) (deferred : Option RecallRecord)
    (st : CopyState) (data after : LineData),
    ComesToWindow q c s u done → q.body = .unlockWrite len mask bytes → dirWf u.dir = true →
    u.ownPin q.requester (lineOf q.addr) = some i → u.pins[i] = some v →
    v.st = .active loc deadline deferred → Resident u (lineOf q.addr) loc st data → st = .x ∨ st = .m →
    after = writeBytes data (offsetOf q.addr) mask bytes →
    (deferred = none → ∃ d, SetBecomes u.dir d loc.set
          (withWay u loc (.copy (unlockedState st mask) (lineOf q.addr) after)) ∧
        exec c s = .next (done (responding { u with dir := d, pins := upd u.pins i none } q .ok))) ∧
    (∀ r, deferred = some r → r.line = lineOf q.addr →
      (∀ j : Fin 4, ∀ w ∈ u.pins[j], w.activeAt loc = true → j = i) →
      ∃ d, SetBecomes u.dir d loc.set (withWay u loc (afterRecall r.kind (lineOf q.addr) after)) ∧
        exec c s = .next (done (responding { u with
          dir := d
          pins := upd u.pins i none
          ackCh := ackChAfter u [{ id := r.id
                                   status := if unlockedState st mask = .m then .dirty after else .clean }]
          recallCount := u.recallCount - 1 } q .ok)))

/-- R113, conditions 1 and 2, and R118: a LOCK_READ of a requester that holds a pin record is answered
NESTED_LOCK, one that finds all four records held RETRY; an UNLOCK_WRITE that passes the window check without
an ACTIVE pin of its requester on its line is answered LOCK_BROKEN and nothing is written; as it is admitted or as
RELEASE_HOLD releases it. -/
def Obligations.PinTableRefusals : Prop :=
  ∀ (q : Request) (c : Instr) (s u : State) (done : State → State),
    ComesToWindow q c s u done → ReachesDirectory u q →
    (q.body.isLockRead = true → u.hasPin q.requester = true →
      exec c s = .next (done (responding u q .nestedLock))) ∧
    (q.body.isLockRead = true → u.hasPin q.requester = false → u.freePinRecord = none →
      exec c s = .next (done (responding u q .retry))) ∧
    (q.body.kind = .unlockWrite → u.ownPin q.requester (lineOf q.addr) = none →
      exec c s = .next (done (responding u q .lockBroken)))

/-- R42, conditions 1 to 4: a request at step 7, as it is admitted or as RELEASE_HOLD releases it, whose line is in
the eviction buffer, under another requester's ACTIVE pin, write-back pending and absent, or write-back pending in
S or CLEANING while it is no READ, is answered RETRY and nothing else changes; the pin record that step 6 reserved
for a LOCK_READ is free again (R114). -/
def Obligations.BusyLinesAnswerRetry : Prop :=
  ∀ (q : Request) (c : Instr) (s u : State) (done : State → State),
    ComesToWindow q c s u done → ReachesDirectory u q → q.body.kind ≠ .unlockWrite →
    (q.body.isLockRead = true → u.hasPin q.requester = false ∧ u.freePinRecord ≠ none) →
    (u.inEvictionBuffer (lineOf q.addr) = true ∨ u.foreignPin q.requester (lineOf q.addr) = true ∨
      (u.writebackPending (lineOf q.addr) = true ∧ u.lookup (lineOf q.addr) = none) ∨
      (u.writebackPending (lineOf q.addr) = true ∧ q.body.kind ≠ .read ∧
        ∃ loc data, Resident u (lineOf q.addr) loc .s data ∨ Resident u (lineOf q.addr) loc .cleaning data)) →
    exec c s = .next (done (responding u q .retry))

/-- R43, R44, R45, R47 and R48: a READ, WRITE or LOCAL ATOMIC that finds its line in FILL, a WRITE or ATOMIC that
finds UPGRADE, and a READ that finds UPGRADE with a WRITE or ATOMIC of its own requester in the waiter list, joins
the end of the list of the entry that names the way, or is answered RETRY when 8 wait already; a WRITE or ATOMIC
that finds S issues an UPGRADE under the FREE tag of lowest number with itself as first waiter, or is answered
RETRY with no tag FREE; one that finds CLEANING is answered RETRY. So too as RELEASE_HOLD releases it. -/
def Obligations.WritesWaitForExclusiveRights : Prop :=
  ∀ (q : Request) (c : Instr) (s u : State) (done : State → State) (access : Access) (loc : Loc),
    ComesToWindow q c s u done → plainAccess q.body = some access → ReachesDirectory u q →
    Unobstructed u q → dirWf u.dir = true → u.lookup (lineOf q.addr) = some loc →
    (∀ g t, u.wayAt loc = .fill (lineOf q.addr) ∨
        ((∃ data, u.wayAt loc = .copy .upgrade (lineOf q.addr) data) ∧
          (q.body.kind ≠ .read ∨ WaitsToWrite q.requester t.waiters)) →
      u.fetchOf loc = some (g, t) →
      (t.waiters.length < 8 → exec c s = .next (done { u with
        txns := upd u.txns g (.issued { t with waiters := t.waiters ++ [waiterOf q access] }) })) ∧
      (8 ≤ t.waiters.length → exec c s = .next (done (responding u q .retry)))) ∧
    (∀ data, q.body.kind ≠ .read → u.wayAt loc = .copy .s (lineOf q.addr) data →
      u.writebackPending (lineOf q.addr) = false →
      (∀ g, u.freeTag = some g → ∃ d, SetBecomes u.dir d loc.set
            (withWay u loc (.copy .upgrade (lineOf q.addr) data)) ∧
          exec c s = .next (done { u with
            dir := d
            txns := upd u.txns g (issuedNow u (.upgrade (lineOf q.addr) loc false) [waiterOf q access])
            reqCh := reqChAfter u [.upgrade g (lineOf q.addr)] })) ∧
      (u.freeTag = none → exec c s = .next (done (responding u q .retry)))) ∧
    (∀ data, q.body.kind ≠ .read → u.wayAt loc = .copy .cleaning (lineOf q.addr) data →
      exec c s = .next (done (responding u q .retry)))

/-- R50, R51, R59 and R66: a READ, WRITE or LOCAL ATOMIC, as it is admitted or as RELEASE_HOLD releases it, whose
line is absent, in neither buffer nor write-back, takes the victim's way: it becomes FILL for the missing line and
moves to the front, and FETCH_S for a READ or FETCH_X for another is issued under the FREE tag of lowest number
with the request as its one waiter. An S or X victim is dropped. An M victim goes to the free eviction buffer entry
of lowest index, and its WRITEBACK DROP is issued first, under the lower of the two lowest FREE tags. Without a
victim or a resource the answer is RETRY and nothing else changes. -/
def Obligations.MissesAllocateAndFetch : Prop :=
  ∀ (q : Request) (c : Instr) (s u : State) (done : State → State) (access : Access),
    ComesToWindow q c s u done → ReachesDirectory u q → Unobstructed u q → dirWf u.dir = true →
    u.lookup (lineOf q.addr) = none → u.writebackPending (lineOf q.addr) = false →
    plainAccess q.body = some access →
    (∀ loc g, u.victim (setIndex (lineOf q.addr)) = some loc → (u.wayAt loc).isM = false →
      u.freeTag = some g → ∃ d, SetBecomes u.dir d loc.set (withWayInFront u loc (.fill (lineOf q.addr))) ∧
      exec c s = .next (done { u with
        dir := d
        txns := upd u.txns g (issuedNow u (fetchKind access (lineOf q.addr) loc) [waiterOf q access])
        reqCh := reqChAfter u [fetchRequest access g (lineOf q.addr)] })) ∧
    (∀ loc g h old data slot, MissEvicts u (lineOf q.addr) loc old data slot g h →
      ∃ d, SetBecomes u.dir d loc.set (withWayInFront u loc (.fill (lineOf q.addr))) ∧
      exec c s = .next (done { u with
        dir := d
        eb := upd u.eb slot (some { line := old, data := data, origin := .victim, tag := g })
        txns := upd (upd u.txns g (issuedNow u (.writebackDrop old slot) []))
          h (issuedNow u (fetchKind access (lineOf q.addr) loc) [waiterOf q access])
        reqCh := reqChAfter u [.writeback g old .drop data, fetchRequest access h (lineOf q.addr)] })) ∧
    (MissRefused u (lineOf q.addr) → exec c s = .next (done (responding u q .retry)))

/-- R28, R29, R31, R32, R65 and R66: a READ under UC, a WRITE under RC or UC and an ATOMIC that its window
sends home, as it is admitted or as RELEASE_HOLD releases it, whose line is neither pinned, in the eviction buffer
nor write-back pending, issues UC_READ, UC_WRITE or FAR_ATOMIC under the FREE tag of lowest number with itself as
the one waiter, after an S or X copy, if any, has been dropped; with no tag FREE it is answered RETRY and the copy
stays. -/
def Obligations.UncachedRequestsGoHome : Prop :=
  ∀ (q : Request) (c : Instr) (s u : State) (done : State → State) (w : Waiter),
    ComesToWindow q c s u done → ReachesRemoval u q → q.uncachedWaiter = some w →
    dirWf u.dir = true → u.linePinned (lineOf q.addr) = false →
    u.inEvictionBuffer (lineOf q.addr) = false → u.writebackPending (lineOf q.addr) = false →
    (∀ g, u.lookup (lineOf q.addr) = none → u.freeTag = some g →
      exec c s = .next (done { u with
        txns := upd u.txns g (issuedNow u (uncachedKind q) [w])
        reqCh := reqChAfter u [uncachedRequest q g] })) ∧
    (∀ g loc st data, Resident u (lineOf q.addr) loc st data → st = .s ∨ st = .x → u.freeTag = some g →
      ∃ d, SetBecomes u.dir d loc.set (withWay u loc .i) ∧
      exec c s = .next (done { u with
        dir := d
        txns := upd u.txns g (issuedNow u (uncachedKind q) [w])
        reqCh := reqChAfter u [uncachedRequest q g] })) ∧
    (∀ loc st data, u.lookup (lineOf q.addr) = none ∨
        (Resident u (lineOf q.addr) loc st data ∧ (st = .s ∨ st = .x)) → u.freeTag = none →
      exec c s = .next (done (responding u q .retry)))

/-- R31 and R32: copy removal answers RETRY, as a request is admitted or as RELEASE_HOLD releases it. Where the
line is pinned, in a way in FILL, UPGRADE or CLEANING, in the eviction buffer or named by an ISSUED WRITEBACK,
nothing else changes. An M copy goes to the free eviction buffer entry of lowest index, of origin STALE, its way
becomes I at its LRU position, and its WRITEBACK DROP is issued; without a free buffer entry or tag it stays. -/
def Obligations.CopyRemovalAnswersRetry : Prop :=
  ∀ (q : Request) (c : Instr) (s u : State) (done : State → State) (w : Waiter),
    ComesToWindow q c s u done → ReachesRemoval u q → q.uncachedWaiter = some w → dirWf u.dir = true →
    (u.linePinned (lineOf q.addr) = true ∨ u.inEvictionBuffer (lineOf q.addr) = true ∨
        u.writebackPending (lineOf q.addr) = true ∨
        (∃ loc, u.lookup (lineOf q.addr) = some loc ∧ (u.wayAt loc).isBusy = true) →
      exec c s = .next (done (responding u q .retry))) ∧
    (∀ loc data, u.linePinned (lineOf q.addr) = false → u.inEvictionBuffer (lineOf q.addr) = false →
      u.writebackPending (lineOf q.addr) = false → Resident u (lineOf q.addr) loc .m data →
      (∀ slot g, u.freeSlot = some slot → u.freeTag = some g → ∃ d,
        SetBecomes u.dir d loc.set (withWay u loc .i) ∧
        exec c s = .next (done (responding { u with
          dir := d
          eb := upd u.eb slot (some { line := lineOf q.addr, data := data, origin := .stale, tag := g })
          txns := upd u.txns g (issuedNow u (.writebackDrop (lineOf q.addr) slot) [])
          reqCh := reqChAfter u [.writeback g (lineOf q.addr) .drop data] } q .retry))) ∧
      (u.freeSlot = none ∨ u.freeTag = none →
        exec c s = .next (done (responding u q .retry))))

/-! ## Far responses -/

/-- R62: a response that arrives while the far link is UP waits behind those that arrived before it; packets
leave the request and ack channels oldest first (the wire records are the model's, log 6). R180: the bytes that
leave are the request's 16-byte header with its payload, and the acknowledgement's 4-byte header with the line's
data for DIRTY, field by field. -/
def Obligations.FarChannelsAreFirstInFirstOut : Prop :=
  ∀ s : State, s.farLink = .up →
    (∀ p, exec (.responseArrival p) s = .next { s with respCh := s.respCh ++ [p] }) ∧
    (∀ r rest, s.reqCh = r :: rest → FarRequestLayout r r.bytes ∧ exec (.farPacketDeparture .request) s = .next
      { s with reqCh := rest, wireRequest := s.wireRequest ++ [r.bytes] }) ∧
    (∀ a rest, s.ackCh = a :: rest → RecallAckLayout a a.bytes ∧ exec (.farPacketDeparture .ack) s = .next
      { s with ackCh := rest, wireAck := s.wireAck ++ [a.bytes] })

/-- R69, R70 and R75: a GRANT_S_DATA with 64 bytes to a fetch whose waiters are READs installs the line S,
moves the way to the front, answers every READ OK from the granted data in list order and frees the entry. -/
def Obligations.SharedGrantsServeReads : Prop :=
  ∀ (s : State) (p : Packet) (rest : List Packet) (g : Tag) (t : Txn) (line : Addr) (loc : Loc)
    (data : LineData),
    TakesResponse s p rest 1 g t → p.length = 68 → data = lineDataOf (respPayload p) →
    t.kind = .fetchS line loc ∨ t.kind = .fetchX line loc → t.noted = none →
    (∀ w ∈ t.waiters, w.access.isRead = true) → dirWf s.dir = true →
    ∃ d, SetBecomes s.dir d loc.set (withWayInFront s loc (.copy .s line data)) ∧
      exec .grantSData s = .next { responseTaken s rest with
        dir := d
        txns := upd s.txns g .free
        drain := { s.drain with waiting := false }
        egress := egressAfter s (readAnswers data t.waiters) }

/-- R70, R71, R75 and R76: a GRANT_X_DATA to a fetch or an upgrade, and a GRANT_X to an upgrade that has not
lost its copy, whatever bytes follow its header (R68, R177), make the line X, with the granted data or the way's
own; the walk then serves READs and
applies WRITEs and ATOMICs in list order, each against the line as those before it left it; any write makes
the line M; the entry becomes FREE. -/
def Obligations.ExclusiveGrantsWalkTheList : Prop :=
  ∀ (s : State) (p : Packet) (rest : List Packet) (code : Byte) (g : Tag) (t : Txn) (line : Addr) (loc : Loc)
    (data : LineData),
    TakesResponse s p rest code g t → t.noted = none → (∀ w ∈ t.waiters, Waiter.pin? w = none) →
    dirWf s.dir = true →
    (code = 2 ∧ p.length = 68 ∧ data = lineDataOf (respPayload p) ∧
        (t.kind = .fetchS line loc ∨ t.kind = .fetchX line loc ∨ ∃ b, t.kind = .upgrade line loc b)) ∨
      (code = 3 ∧ t.kind = .upgrade line loc false ∧ s.wayAt loc = .copy .upgrade line data) →
    ∃ d, SetBecomes s.dir d loc.set (withWayInFront s loc
        (.copy (if (walked data t.waiters).2.1 then .m else .x) line (walked data t.waiters).1)) ∧
      exec (responseStep p) s = .next { responseTaken s rest with
        dir := d
        txns := upd s.txns g .free
        drain := { s.drain with waiting := false }
        egress := egressAfter s (walked data t.waiters).2.2 }

/-- R69, R74: under a GRANT_S_DATA the walk serves the READs at the head of the list and stops at the first
waiter that needs the line exclusive: the line is UPGRADE with the granted data, an UPGRADE is issued under
the same tag with a new deadline, and that waiter and those behind it stay in order. -/
def Obligations.SharedGrantsStopAtWrites : Prop :=
  ∀ (s : State) (p : Packet) (rest : List Packet) (g : Tag) (t : Txn) (line : Addr) (loc : Loc)
    (data : LineData) (reads : List Waiter) (w : Waiter) (ws : List Waiter),
    TakesResponse s p rest 1 g t → p.length = 68 → data = lineDataOf (respPayload p) →
    t.kind = .fetchS line loc ∨ t.kind = .fetchX line loc → t.noted = none → dirWf s.dir = true →
    t.waiters = reads ++ w :: ws → (∀ v ∈ reads, v.access.isRead = true) → w.access.isRead = false →
    ∃ d, SetBecomes s.dir d loc.set (withWayInFront s loc (.copy .upgrade line data)) ∧
      exec .grantSData s = .next { responseTaken s rest with
        dir := d
        txns := upd s.txns g (issuedNow s (.upgrade line loc false) (w :: ws) t.origin)
        reqCh := reqChAfter s [.upgrade g line]
        egress := egressAfter s (readAnswers data reads) }

/-- R70 to R73 and R76: the walk of a GRANT_X_DATA to a fetch or an upgrade, and of a GRANT_X to an upgrade that has
not lost its copy, serves the waiters ahead of a LOCK_READ, activates its pin, with the deadline that the pin timeout
gives now, and answers it OK with the bytes as they then stand. Every later waiter of another requester is answered
RETRY, and its WAITING pin record, if it has one, is freed; those of the pin's owner are served as on any line. -/
def Obligations.WalksActivatePins : Prop :=
  ∀ (s : State) (p : Packet) (rest : List Packet) (code : Byte) (g : Tag) (t : Txn) (line : Addr) (loc : Loc)
    (data : LineData) (ahead : List Waiter) (w : Waiter) (ws : List Waiter) (len : Nat) (i : Fin 4) (v : Pin)
    (a b : LineData × Bool × List NearPacket),
    TakesResponse s p rest code g t → t.noted = none → dirWf s.dir = true →
    (code = 2 ∧ p.length = 68 ∧ data = lineDataOf (respPayload p) ∧
        (t.kind = .fetchS line loc ∨ t.kind = .fetchX line loc ∨ ∃ c, t.kind = .upgrade line loc c)) ∨
      (code = 3 ∧ t.kind = .upgrade line loc false ∧ s.wayAt loc = .copy .upgrade line data) →
    t.waiters = ahead ++ w :: ws → (∀ u ∈ ahead, Waiter.pin? u = none) → w.access = .lockRead len i →
    s.pins[i] = some v → (∀ u ∈ ws, u.requester = w.requester → Waiter.pin? u = none) →
    a = walked data ahead → b = walkedBehind w.requester a.1 ws →
    ∃ d, SetBecomes s.dir d loc.set
        (withWayInFront s loc (.copy (if a.2.1 || b.2.1 then .m else .x) line b.1)) ∧
      exec (responseStep p) s = .next { responseTaken s rest with
        dir := d
        txns := upd s.txns g .free
        drain := { s.drain with waiting := false }
        pins := pinsWithout
          (upd s.pins i (some { v with st := .active loc (s.now + s.config.pinTimeout) none })) ws
        egress := egressAfter s (a.2.2 ++ .response w.requester w.id RequestKind.lockRead.code .ok
          (lineBytes a.1 w.offset len) :: b.2.2) }

/-- R75, R98 and R101: the recall noted on a fetch, or on an upgrade that has lost its copy, is applied to the line
as the walk left it. After a walk that ended on a line left in S or X it is acknowledged CLEAN, on a line left in M
DIRTY with the data that the walk left, a DOWNGRADE leaving S and a SURRENDER I. After a walk that stopped, a
DOWNGRADE finds UPGRADE and is acknowledged CLEAN, and a SURRENDER turns the way back to FILL with copy lost set
and is acknowledged UPGRADE_PENDING. After a walk that activated a pin, and behind it served the pin's owner and
answered every other waiter RETRY (R73), the recall is deferred on the pin record and not acknowledged. -/
def Obligations.NotedRecallsMeetTheGrantedLine : Prop :=
  ∀ (s : State) (p : Packet) (rest : List Packet) (code : Byte) (g : Tag) (t : Txn) (line : Addr) (loc : Loc)
    (data : LineData) (r : RecallRecord),
    TakesResponse s p rest code g t → p.length = 68 → data = lineDataOf (respPayload p) →
    dirWf s.dir = true → t.noted = some r → r.line = line → s.lookup line = some loc →
    s.wayAt loc = .fill line → s.writebackPending line = false → s.activePinAt loc = none →
    s.fetchOf loc = some (g, t) →
    ((code = 1 ∧ (t.kind = .fetchS line loc ∨ t.kind = .fetchX line loc) ∧
          ∀ v ∈ t.waiters, v.access.isRead = true) ∨
        (code = 2 ∧ (t.kind = .fetchS line loc ∨ t.kind = .fetchX line loc ∨
          t.kind = .upgrade line loc true) ∧ ∀ v ∈ t.waiters, Waiter.pin? v = none) →
      ∃ d, SetBecomes s.dir d loc.set (withWayInFront s loc
          (afterRecall r.kind line (walked data t.waiters).1)) ∧
        exec (responseStep p) s = .next { responseTaken s rest with
          dir := d
          txns := upd s.txns g .free
          drain := { s.drain with waiting := false }
          egress := egressAfter s (walked data t.waiters).2.2
          ackCh := ackChAfter s
            [{ id := r.id
               status := if (walked data t.waiters).2.1 then .dirty (walked data t.waiters).1 else .clean }]
          recallCount := s.recallCount - 1 }) ∧
    (∀ reads w ws, code = 1 → t.kind = .fetchS line loc ∨ t.kind = .fetchX line loc →
      t.waiters = reads ++ w :: ws → (∀ v ∈ reads, v.access.isRead = true) → w.access.isRead = false →
      ∃ d, SetBecomes s.dir d loc.set (withWayInFront s loc
          (match r.kind with
            | .downgrade => .copy .upgrade line data
            | .surrender => .fill line)) ∧
        exec .grantSData s = .next { responseTaken s rest with
          dir := d
          txns := upd s.txns g (issuedNow s (.upgrade line loc (r.kind == .surrender)) (w :: ws) t.origin)
          reqCh := reqChAfter s [.upgrade g line]
          egress := egressAfter s (readAnswers data reads)
          ackCh := ackChAfter s
            [{ id := r.id
               status := match r.kind with
                | .downgrade => .clean
                | .surrender => .upgradePending }]
          recallCount := s.recallCount - 1 }) ∧
    (∀ ahead w ws len i v a b, code = 2 →
      t.kind = .fetchS line loc ∨ t.kind = .fetchX line loc ∨ t.kind = .upgrade line loc true →
      t.waiters = ahead ++ w :: ws → (∀ u ∈ ahead, Waiter.pin? u = none) → w.access = .lockRead len i →
      s.pins[i] = some v →
      (∀ u ∈ ws, Waiter.pin? u ≠ some i ∧ (u.requester = w.requester → Waiter.pin? u = none)) →
      a = walked data ahead → b = walkedBehind w.requester a.1 ws →
      ∃ d, SetBecomes s.dir d loc.set
          (withWayInFront s loc (.copy (if a.2.1 || b.2.1 then .m else .x) line b.1)) ∧
        exec .grantXData s = .next { responseTaken s rest with
          dir := d
          txns := upd s.txns g .free
          drain := { s.drain with waiting := false }
          pins := pinsWithout (upd s.pins i (some
            { v with st := .active loc (s.now + s.config.pinTimeout) (some r) })) ws
          egress := egressAfter s (a.2.2 ++ .response w.requester w.id RequestKind.lockRead.code .ok
            (lineBytes a.1 w.offset len) :: b.2.2) })

/-- R77: "A GRANT_X that fits an UPGRADE entry whose copy lost flag is set brings no data to a way that holds
none": FAR_PROTOCOL is raised with the tag, the entry continues as FETCH_X under the same tag with a new
deadline, its waiters and noted recall as they were, and nobody is answered. -/
def Obligations.GrantWithoutDataIsReissued : Prop :=
  ∀ (s : State) (p : Packet) (rest : List Packet) (g : Tag) (t : Txn) (line : Addr) (loc : Loc),
    TakesResponse s p rest 3 g t → t.kind = .upgrade line loc true →
    exec .grantX s = .next (noticed { responseTaken s rest with
      txns := upd s.txns g (.issued { t with
        kind := .fetchX line loc, deadline := s.now + s.config.farTimeout })
      reqCh := reqChAfter s [.fetchX g line] } .farProtocol { tag := some (byteOf g.val) })

/-- R78, R87 and R146: WB_DONE frees the entry. Retain DROP: the eviction buffer entry is freed. Retain KEEP:
a way that holds the entry's line in CLEANING becomes X; in any other case the directory is unchanged. The
end of a write-back of origin DRAIN is counted as written back, in SCANNING and in FINISHING, and the last report
in FINISHING completes the drain with its reply, where one is pending, ABORTED where it was aborted. -/
def Obligations.WritebacksComplete : Prop :=
  ∀ (s : State) (p : Packet) (rest : List Packet) (g : Tag) (t : Txn),
    TakesResponse s p rest 4 g t → p.length = 4 → dirWf s.dir = true →
    (∀ x slot, t.kind = .writebackDrop x slot →
      exec .wbDone s = .next { responseTaken s rest with
        eb := upd s.eb slot none
        txns := upd s.txns g .free
        drain := drainAfterEnd t true { s.drain with waiting := false }
        egress := egressAfter s (drainEndReplies t true s.drain) }) ∧
    (∀ x loc data, t.kind = .writebackKeep x loc → s.wayAt loc = .copy .cleaning x data →
      ∃ d, SetBecomes s.dir d loc.set (withWay s loc (.copy .x x data)) ∧
        exec .wbDone s = .next { responseTaken s rest with
          dir := d
          txns := upd s.txns g .free
          drain := drainAfterEnd t true { s.drain with waiting := false }
          egress := egressAfter s (drainEndReplies t true s.drain) }) ∧
    (∀ x loc, t.kind = .writebackKeep x loc → (∀ data, s.wayAt loc ≠ .copy .cleaning x data) →
      exec .wbDone s = .next { responseTaken s rest with
        txns := upd s.txns g .free
        drain := drainAfterEnd t true { s.drain with waiting := false }
        egress := egressAfter s (drainEndReplies t true s.drain) })

/-- R79: UC_DATA of the entry's length, UC_DONE and ATOMIC_RESULT answer the entry's waiter OK, with the
returned bytes or old value, and the entry becomes FREE; an entry whose waiter the loss of the near link has
removed answers nobody. No line state, LRU order list or eviction buffer entry changes. -/
def Obligations.UncachedTransactionsComplete : Prop :=
  ∀ (s : State) (p : Packet) (rest : List Packet) (code : Byte) (g : Tag) (t : Txn),
    TakesResponse s p rest code g t →
    (code = 5 ∧ ∃ a, t.kind = .ucRead a (respPayload p).length) ∨
      (code = 6 ∧ p.length = 4 ∧ ∃ a len, t.kind = .ucWrite a len) ∨
      (code = 7 ∧ p.length = 12 ∧ ∃ a, t.kind = .farAtomic a) →
    exec (responseStep p) s = .next { responseTaken s rest with
      txns := upd s.txns g .free
      drain := { s.drain with waiting := false }
      egress := egressAfter s (t.waiters.map fun w =>
        .response w.requester w.id w.access.kind.code .ok (respPayload p)) }

/-- R80, R81, R82, R87 and R116: FAIL frees the entry and raises FAR_FAIL with the tag and the target. Waiters
are answered FAR_FAIL in list order and the WAITING pin records of LOCK_READs freed; a fetch's or upgrade's
way becomes I at its LRU position and a noted recall is acknowledged NOT_HELD; a WRITEBACK DROP's eviction
buffer entry is freed; a way still CLEANING under a WRITEBACK KEEP returns to M, and in any other case the
directory is unchanged; a write-back of origin DRAIN is counted as failed, and the last report in FINISHING
completes the drain. Bytes behind the header are ignored against a fetch, an upgrade and a UC_READ (R68, R177); a
FAIL to a FAR_ATOMIC fits with the 8 bytes of its row (R68). That a FAIL without payload fits the other entries, a
FAR_ATOMIC among them, is the model's reading (log 10). -/
def Obligations.FailsEndTransactions : Prop :=
  ∀ (s : State) (p : Packet) (rest : List Packet) (g : Tag) (t : Txn),
    TakesResponse s p rest 8 g t →
    p.length = 4 ∨ ignoresSurplus t.kind = true ∨ (p.length = 12 ∧ ∃ a, t.kind = .farAtomic a) →
    dirWf s.dir = true →
    (∀ loc, t.kind.fetchLoc? = some loc → t.origin = .request →
      ∃ d, SetBecomes s.dir d loc.set (withWay s loc .i) ∧
        exec .fail s = .next (noticed { responseTaken s rest with
          dir := d
          txns := upd s.txns g .free
          drain := { s.drain with waiting := false }
          pins := pinsWithout s.pins t.waiters
          egress := egressAfter s (waiterAnswers t.waiters .farFail)
          ackCh := ackChAfter s (notHeldAcks t.noted)
          recallCount := s.recallCount - t.noted.toList.length }
          .farFail { tag := some (byteOf g.val), addr := some t.kind.target })) ∧
    (t.kind.line? = none → t.origin = .request →
      exec .fail s = .next (noticed { responseTaken s rest with
        txns := upd s.txns g .free
        drain := { s.drain with waiting := false }
        pins := pinsWithout s.pins t.waiters
        egress := egressAfter s (waiterAnswers t.waiters .farFail) }
        .farFail { tag := some (byteOf g.val), addr := some t.kind.target })) ∧
    (∀ x slot, t.kind = .writebackDrop x slot →
      exec .fail s = .next (noticed { responseTaken s rest with
        eb := upd s.eb slot none
        txns := upd s.txns g .free
        drain := drainAfterEnd t false { s.drain with waiting := false }
        egress := egressAfter s (drainEndReplies t false s.drain) }
        .farFail { tag := some (byteOf g.val), addr := some x })) ∧
    (∀ x loc data, t.kind = .writebackKeep x loc → s.wayAt loc = .copy .cleaning x data →
      ∃ d, SetBecomes s.dir d loc.set (withWay s loc (.copy .m x data)) ∧
        exec .fail s = .next (noticed { responseTaken s rest with
          dir := d
          txns := upd s.txns g .free
          drain := drainAfterEnd t false { s.drain with waiting := false }
          egress := egressAfter s (drainEndReplies t false s.drain) }
          .farFail { tag := some (byteOf g.val), addr := some x })) ∧
    (∀ x loc, t.kind = .writebackKeep x loc → (∀ data, s.wayAt loc ≠ .copy .cleaning x data) →
      exec .fail s = .next (noticed { responseTaken s rest with
        txns := upd s.txns g .free
        drain := drainAfterEnd t false { s.drain with waiting := false }
        egress := egressAfter s (drainEndReplies t false s.drain) }
        .farFail { tag := some (byteOf g.val), addr := some x }))

/-- R84, R87 and R183: an ISSUED entry whose deadline is reached becomes ORPHANED and FAR_TIMEOUT is raised
with the tag and the target; its waiters are answered FAR_TIMEOUT, and its way, pin records, noted recall,
eviction buffer entry, CLEANING line and drain report go as at a FAIL. An entry whose deadline lies ahead, and one
that is not ISSUED, does not expire (logs 1 and 17). -/
def Obligations.ExpiriesOrphanTheirTag : Prop :=
  ∀ (s : State) (g : Tag) (t : Txn), dirWf s.dir = true →
    (s.txns[g] = .issued t → t.deadline ≤ s.now →
      (∀ loc, t.kind.fetchLoc? = some loc → t.origin = .request →
        ∃ d, SetBecomes s.dir d loc.set (withWay s loc .i) ∧
          exec (.transactionExpiry g) s = .next (noticed { s with
            dir := d
            txns := upd s.txns g .orphaned
            pins := pinsWithout s.pins t.waiters
            egress := egressAfter s (waiterAnswers t.waiters .farTimeout)
            ackCh := ackChAfter s (notHeldAcks t.noted)
            recallCount := s.recallCount - t.noted.toList.length }
            .farTimeout { tag := some (byteOf g.val), addr := some t.kind.target })) ∧
      (t.kind.line? = none → t.origin = .request →
        exec (.transactionExpiry g) s = .next (noticed { s with
          txns := upd s.txns g .orphaned
          pins := pinsWithout s.pins t.waiters
          egress := egressAfter s (waiterAnswers t.waiters .farTimeout) }
          .farTimeout { tag := some (byteOf g.val), addr := some t.kind.target })) ∧
      (∀ x slot, t.kind = .writebackDrop x slot →
        exec (.transactionExpiry g) s = .next (noticed { s with
          eb := upd s.eb slot none
          txns := upd s.txns g .orphaned
          drain := drainAfterEnd t false { s.drain with waiting := false }
          egress := egressAfter s (drainEndReplies t false s.drain) }
          .farTimeout { tag := some (byteOf g.val), addr := some x })) ∧
      (∀ x loc data, t.kind = .writebackKeep x loc → s.wayAt loc = .copy .cleaning x data →
        ∃ d, SetBecomes s.dir d loc.set (withWay s loc (.copy .m x data)) ∧
          exec (.transactionExpiry g) s = .next (noticed { s with
            dir := d
            txns := upd s.txns g .orphaned
            drain := drainAfterEnd t false s.drain
            egress := egressAfter s (drainEndReplies t false s.drain) }
            .farTimeout { tag := some (byteOf g.val), addr := some x })) ∧
      (∀ x loc, t.kind = .writebackKeep x loc → (∀ data, s.wayAt loc ≠ .copy .cleaning x data) →
        exec (.transactionExpiry g) s = .next (noticed { s with
          txns := upd s.txns g .orphaned
          drain := drainAfterEnd t false s.drain
          egress := egressAfter s (drainEndReplies t false s.drain) }
          .farTimeout { tag := some (byteOf g.val), addr := some x }))) ∧
    (s.txns[g] = .issued t → s.now < t.deadline → exec (.transactionExpiry g) s = .next s) ∧
    (s.txns[g] = .free ∨ s.txns[g] = .orphaned → exec (.transactionExpiry g) s = .next s)

/-- R86: "A response whose tag names an ORPHANED entry is discarded, whatever its kind and payload, and the
entry becomes FREE." Nothing else changes but that a drain waiting for an entry may visit again (R145). An
ORPHANED entry does not expire again and is not free for issue. -/
def Obligations.LateResponsesFreeTheirTag : Prop :=
  ∀ (s : State) (g : Tag), s.txns[g] = .orphaned →
    (∀ (p : Packet) (rest : List Packet), s.respCh = p :: rest → 4 ≤ p.length →
      respTagByte p = byteOf g.val →
      exec (responseStep p) s = .next { responseTaken s rest with
        txns := upd s.txns g .free
        drain := { s.drain with waiting := false } }) ∧
    exec (.transactionExpiry g) s = .next s ∧ s.freeTag ≠ some g

/-- R67, conditions 1 and 3, R68 and R180: a response is discarded with FAR_PROTOCOL, and nothing else
changes, when its tag names no entry or a FREE one, when its kind or payload length is not accepted by the
ISSUED entry it names, when its kind is unknown, and, with tag 255, when it is shorter than its header (log 8). -/
def Obligations.StrayResponsesRaiseFarProtocol : Prop :=
  ∀ (s : State) (p : Packet) (rest : List Packet), s.respCh = p :: rest →
    (4 ≤ p.length → (32 ≤ (respTagByte p).toNat ∨
          (∃ g : Tag, respTagByte p = byteOf g.val ∧ s.txns[g] = .free) ∨
          (∃ (g : Tag) (t : Txn), respTagByte p = byteOf g.val ∧ s.txns[g] = .issued t ∧
            refusesResponse t.kind (respKindByte p).toNat (respPayload p).length = true)) →
      exec (responseStep p) s = .next
        (noticed (responseTaken s rest) .farProtocol { tag := some (respTagByte p) })) ∧
    (p.length < 4 →
      exec .shortResponse s = .next (noticed (responseTaken s rest) .farProtocol { tag := some 255 }))

/-! ## Recalls and pins -/

/-- R93, R108 and R180: a recall that arrives is examined in this order: shorter than 10 bytes, discarded
with FAR_PROTOCOL; with 8 recalls unacknowledged, discarded with FAR_PROTOCOL; of unknown kind or unaligned
line, or naming a line with an unacknowledged recall, acknowledged REFUSED with FAR_PROTOCOL; otherwise it
joins the tail of the queue and the count rises by one. Nothing else changes. (That it is examined within the event
of its arrival, so that the recall channel is empty between steps, is the model's reading, log 7.) -/
def Obligations.RecallArrivalsAreChecked : Prop :=
  ∀ (s : State) (p : Packet), s.farLink = .up → s.recallCh = [] →
    (p.length < 10 ∨ 8 ≤ s.recallCount → exec (.recallArrival p) s = .next
      (noticed s .farProtocol { recallId := some (recallIdOf p), addr := some (recallLineOf p) })) ∧
    (10 ≤ p.length → s.recallCount < 8 →
      recallKindOf (byteAt p 0) = none ∨ (recallLineOf p).toNat % 64 ≠ 0 ∨
        (∃ r ∈ s.unacknowledged, r.line = recallLineOf p) →
      exec (.recallArrival p) s = .next (noticed
        { s with ackCh := s.ackCh ++ [{ id := recallIdOf p, status := .refused }] }
        .farProtocol { recallId := some (recallIdOf p), addr := some (recallLineOf p) })) ∧
    (∀ k, 10 ≤ p.length → s.recallCount < 8 → recallKindOf (byteAt p 0) = some k →
      (recallLineOf p).toNat % 64 = 0 → (∀ r ∈ s.unacknowledged, r.line ≠ recallLineOf p) →
      exec (.recallArrival p) s = .next { s with
        recallQueue := s.recallQueue ++ [{ id := recallIdOf p, line := recallLineOf p, kind := k }]
        recallCount := s.recallCount + 1 })

/-- R94 cases 3 to 6, R95, R96 and R98: a recall taken in OPERATING that finds a copy not under an ACTIVE
pin. S, X and M become S after a DOWNGRADE and I after a SURRENDER; the acknowledgement is CLEAN from S and
X, DIRTY with the data from M, WB_IN_FLIGHT from CLEANING and from an S line that is write-back pending. In
UPGRADE a DOWNGRADE is acknowledged CLEAN and changes nothing, a SURRENDER makes the way FILL, sets copy lost
and is acknowledged UPGRADE_PENDING. -/
def Obligations.RecallsReduceTheCopy : Prop :=
  ∀ (s : State) (r : RecallRecord) (rest : List RecallRecord) (loc : Loc) (st : CopyState) (data : LineData),
    s.mode = .operating → s.recallQueue = r :: rest → dirWf s.dir = true →
    Resident s r.line loc st data → s.activePinAt loc = none →
    (st ≠ .upgrade → ∃ d, SetBecomes s.dir d loc.set (withWay s loc (afterRecall r.kind r.line data)) ∧
      exec (recallStep r.kind) s = .next { s with
        recallQueue := rest
        dir := d
        ackCh := ackChAfter s
          [{ id := r.id
             status := match st with
              | .s => if s.writebackPending r.line then .wbInFlight else .clean
              | .m => .dirty data
              | .cleaning => .wbInFlight
              | _ => .clean }]
        recallCount := s.recallCount - 1 }) ∧
    (st = .upgrade → r.kind = .downgrade → exec .downgrade s = .next { s with
        recallQueue := rest
        ackCh := ackChAfter s [{ id := r.id, status := .clean }]
        recallCount := s.recallCount - 1 }) ∧
    (∀ g t, st = .upgrade → r.kind = .surrender → s.fetchOf loc = some (g, t) →
      t.kind = .upgrade r.line loc false →
      ∃ d, SetBecomes s.dir d loc.set (withWay s loc (.fill r.line)) ∧
        exec .surrender s = .next { s with
          recallQueue := rest
          dir := d
          txns := upd s.txns g (.issued { t with kind := .upgrade r.line loc true })
          ackCh := ackChAfter s [{ id := r.id, status := .upgradePending }]
          recallCount := s.recallCount - 1 })

/-- R94 cases 1, 2 and 7 to 9, R96, R97, R99 and R100: a recall under an ACTIVE pin is deferred on the pin
record, one that finds FILL is noted on the entry that names the way, neither is acknowledged; one that finds
its line absent is acknowledged WB_IN_FLIGHT while the eviction buffer or an ISSUED WRITEBACK holds it, and
NOT_HELD otherwise; in ISOLATED every recall is acknowledged NOT_HELD. Nothing else changes. -/
def Obligations.RecallsWithoutACopyToTake : Prop :=
  ∀ (s : State) (r : RecallRecord) (rest : List RecallRecord), s.recallQueue = r :: rest →
    (s.mode = .isolated → exec (recallStep r.kind) s = .next { s with
      recallQueue := rest
      ackCh := ackChAfter s [{ id := r.id, status := .notHeld }]
      recallCount := s.recallCount - 1 }) ∧
    (s.mode = .operating → s.lookup r.line = none → exec (recallStep r.kind) s = .next { s with
      recallQueue := rest
      ackCh := ackChAfter s
        [{ id := r.id
           status := if s.inEvictionBuffer r.line || s.writebackPending r.line then .wbInFlight
            else .notHeld }]
      recallCount := s.recallCount - 1 }) ∧
    (∀ loc g t, s.mode = .operating → s.lookup r.line = some loc → s.activePinAt loc = none →
      s.wayAt loc = .fill r.line → s.fetchOf loc = some (g, t) →
      exec (recallStep r.kind) s = .next { s with
        recallQueue := rest
        txns := upd s.txns g (.issued { t with noted := some r }) }) ∧
    (∀ loc i v deadline deferred, s.mode = .operating → s.lookup r.line = some loc →
      s.activePinAt loc = some i → s.pins[i] = some v → v.st = .active loc deadline deferred →
      exec (recallStep r.kind) s = .next { s with
        recallQueue := rest
        pins := upd s.pins i (some { v with st := .active loc deadline (some r) }) })

/-- R102, R120, R122 and R153: when an ACTIVE pin's deadline is reached its record is freed, a deferred recall is
applied to the line as the owner left it, and PIN_EXPIRED is raised; a manager's BREAK_PIN ends it the same way,
without a notice, and is answered OK with the owner and the line. Whatever else the pin table holds, a BREAK_PIN of
an index above 3 is answered INVALID_ENTRY, one of a WAITING or free record NOT_FOUND, and nothing changes. A
deadline that lies ahead, and a WAITING or free record, does not expire (R120, R183; logs 1 and 17). -/
def Obligations.PinsEnd : Prop :=
  (∀ (s : State) (i : Fin 4) (v : Pin) (loc : Loc) (deadline : Nat) (deferred : Option RecallRecord)
    (st : CopyState) (data : LineData),
    s.pins[i] = some v → v.st = .active loc deadline deferred → dirWf s.dir = true →
    Resident s v.line loc st data → st = .x ∨ st = .m → (∀ r ∈ deferred, r.line = v.line) →
    (∀ j : Fin 4, ∀ w ∈ s.pins[j], w.activeAt loc = true → j = i) →
    (deadline ≤ s.now → ∃ t, PinEnded s i loc deferred st data t ∧
      exec (.pinExpiry i) s = .next
        (noticed t .pinExpired { requester := some v.owner, addr := some v.line })) ∧
    (∀ p rest, TakesCommand s p rest 12 → FromManager s p → slotByte p = i.val →
      ∃ t, PinEnded (credited s p rest) i loc deferred st data t ∧
        exec .breakPin s = .next (replying t p .ok (.brokenPin v.owner v.line)))) ∧
  (∀ (s : State) (p : Packet) (rest : List Packet), TakesCommand s p rest 12 → FromManager s p →
    (4 ≤ slotByte p → exec .breakPin s = .next (replying (credited s p rest) p .invalidEntry)) ∧
    (∀ k : Fin 4, slotByte p = k.val → (∀ w ∈ s.pins[k], w.isActive = false) →
      exec .breakPin s = .next (replying (credited s p rest) p .notFound))) ∧
  ∀ (s : State) (i : Fin 4), (∀ v ∈ s.pins[i], ∀ d ∈ Pin.deadline? v, s.now < d) →
    exec (.pinExpiry i) s = .next s

/-! ## The drain engine -/

/-- R142, R143 and R144: in SCANNING with waiting clear a visit acts on the way at the cursor. An ACTIVE pin
counts it as skipped; I, FILL, UPGRADE and CLEANING are passed over; S and X are left in mode KEEP and become
I in mode DROP; M is written back, by a WRITEBACK KEEP that leaves it CLEANING, or by a WRITEBACK DROP from
the eviction buffer, which leaves it I. The cursor then advances, and past the last way the scan ends (R146).
Without the entries that M needs nothing changes but that waiting is set. -/
def Obligations.DrainVisitsActOnTheWay : Prop :=
  ∀ (s : State) (loc : Loc), s.drain.st = .scanning → s.drain.waiting = false →
    s.drain.cursorSet = loc.set.val → s.drain.cursorWay = loc.way → dirWf s.dir = true →
    (s.activePinAt loc ≠ none → exec .drainVisit s = .next
      (scanned { s with drain := { s.drain with skippedPinned := s.drain.skippedPinned + 1 } })) ∧
    (s.activePinAt loc = none →
      (s.wayAt loc = .i ∨ (s.wayAt loc).isBusy = true → exec .drainVisit s = .next (scanned s)) ∧
      (∀ st x data, s.wayAt loc = .copy st x data → st = .s ∨ st = .x →
        (s.drain.mode = .keep → exec .drainVisit s = .next (scanned s)) ∧
        (s.drain.mode = .drop → ∃ d, SetBecomes s.dir d loc.set (withWay s loc .i) ∧
          exec .drainVisit s = .next (scanned { s with
            dir := d, drain := { s.drain with invalidated := s.drain.invalidated + 1 } }))) ∧
      (∀ x data g, s.wayAt loc = .copy .m x data → s.drain.mode = .keep → s.freeTag = some g →
        ∃ d, SetBecomes s.dir d loc.set (withWay s loc (.copy .cleaning x data)) ∧
          exec .drainVisit s = .next (scanned { s with
            dir := d
            txns := upd s.txns g (issuedNow s (.writebackKeep x loc) [] .drain)
            reqCh := reqChAfter s [.writeback g x .keep data]
            drain := { s.drain with outstanding := s.drain.outstanding + 1 } })) ∧
      (∀ x data g slot, s.wayAt loc = .copy .m x data → s.drain.mode = .drop → s.freeTag = some g →
        s.freeSlot = some slot → ∃ d, SetBecomes s.dir d loc.set (withWay s loc .i) ∧
          exec .drainVisit s = .next (scanned { s with
            dir := d
            eb := upd s.eb slot (some { line := x, data := data, origin := .drain, tag := g })
            txns := upd s.txns g (issuedNow s (.writebackDrop x slot) [] .drain)
            reqCh := reqChAfter s [.writeback g x .drop data]
            drain := { s.drain with outstanding := s.drain.outstanding + 1 } })) ∧
      (∀ x data, s.wayAt loc = .copy .m x data →
        s.freeTag = none ∨ (s.drain.mode = .drop ∧ s.freeSlot = none) →
        exec .drainVisit s = .next { s with drain := { s.drain with waiting := true } }))

/-- R141 and R147: a manager's DRAIN is answered BUSY while a drain runs and INVALID_ENTRY for an unknown
mode; otherwise it is accepted, with its reply pending. Its DRAIN_ABORT is answered NOT_FOUND in IDLE; in
FINISHING it sets aborted; in SCANNING it stops the scan, the state becoming FINISHING while write-backs are
outstanding, and the drain completing before the abort's reply, with status ABORTED, when none is. -/
def Obligations.DrainsStartAndAbort : Prop :=
  ∀ (s : State) (p : Packet) (rest : List Packet), FromManager s p →
    (TakesCommand s p rest 6 →
      (s.drain.st ≠ .idle → exec .drain s = .next (replying (credited s p rest) p .busy)) ∧
      (s.drain.st = .idle → byteAt (payloadOf p) 0 ≠ 1 → byteAt (payloadOf p) 0 ≠ 2 →
        exec .drain s = .next (replying (credited s p rest) p .invalidEntry)) ∧
      (∀ mode, s.drain.st = .idle → byteAt (payloadOf p) 0 = DrainMode.code mode →
        exec .drain s = .next { credited s p rest with
          drain :=
            { st := .scanning, mode := mode, cursorSet := 0, cursorWay := 0, waiting := false,
              writtenBack := 0, invalidated := 0, skippedPinned := 0, failed := 0, outstanding := 0,
              aborted := false, pendingReply := some (senderOf p, requestIdOf p) } })) ∧
    (TakesCommand s p rest 8 →
      (s.drain.st = .idle → exec .drainAbort s = .next (replying (credited s p rest) p .notFound)) ∧
      (s.drain.st = .finishing → exec .drainAbort s = .next
        (replying { credited s p rest with drain := { s.drain with aborted := true } } p .ok)) ∧
      (s.drain.st = .scanning → 0 < s.drain.outstanding → exec .drainAbort s = .next
        (replying { credited s p rest with
          drain := { s.drain with st := .finishing, waiting := false, aborted := true } } p .ok)) ∧
      (s.drain.st = .scanning → s.drain.outstanding = 0 → exec .drainAbort s = .next
        (replying { credited s p rest with
          egress := (credited s p rest).egress ++ drainReplies s.drain .aborted
          drain := { s.drain with
            st := .idle, waiting := false, aborted := false, pendingReply := none } } p .ok)))

/-! ## Management -/

/-- R151: a command whose sender is not in the manager set is answered DENIED; nothing else is examined and
nothing changes. -/
def Obligations.OnlyManagersCommand : Prop :=
  ∀ (s : State) (p : Packet) (rest : List Packet), s.nearLink = .up → s.ingress = p :: rest →
    kindByte p = mgmtCode → commandWellFormed p = true → ¬ FromManager s p →
    exec (managementStep p) s = .next (replying (credited s p rest) p .denied)

/-- R33, R130, R153, R154, R155 and R157: a manager's READ_ENTRY is answered OK with the entry as it stands;
its WRITE_ENTRY with contents that the table's validation accepts replaces the whole entry, a watch entry's
hit count becoming 0; an unknown table, an index out of range and refused contents are answered INVALID_ENTRY
and change nothing. (The step that takes an unknown table is the model's choice, log 11.) -/
def Obligations.EntriesAreReadAndWritten : Prop :=
  ∀ (s : State) (p : Packet) (rest : List Packet), FromManager s p →
    (TakesCommand s p rest 1 →
      (∀ i : Fin 32, tableByte p = 1 → indexByte p = i.val → exec .readEntryWindow s = .next
        (replying (credited s p rest) p .ok (.window s.windows[i]))) ∧
      (∀ i : Fin 8, tableByte p = 2 → indexByte p = i.val → exec .readEntryWatch s = .next
        (replying (credited s p rest) p .ok (.watch s.watch[i]))) ∧
      (tableByte p = 3 → indexByte p = 0 → exec .readEntryConfig s = .next
        (replying (credited s p rest) p .ok (.config s.config)))) ∧
    (TakesCommand s p rest 2 →
      (∀ (i : Fin 32) (e : WindowEntry), tableByte p = 1 → indexByte p = i.val →
        windowOf (entryBytes p) = some e → exec .writeEntryWindow s = .next
          (replying { credited s p rest with windows := upd s.windows i e } p .ok)) ∧
      (∀ (i : Fin 8) (e : WatchEntry), tableByte p = 2 → indexByte p = i.val →
        watchOf (entryBytes p) = some e → e.hits = 0 ∧ exec .writeEntryWatch s = .next
          (replying { credited s p rest with watch := upd s.watch i e } p .ok)) ∧
      (∀ c : ConfigRecord, tableByte p = 3 → indexByte p = 0 → configOf (entryBytes p) = some c →
        exec .writeEntryConfig s = .next (replying { credited s p rest with config := c } p .ok)) ∧
      ((tableByte p = 1 ∧ refusedWindow (entryBytes p)) ∨ (tableByte p = 2 ∧ refusedWatch (entryBytes p)) ∨
          (tableByte p = 3 ∧ refusedConfig (entryBytes p)) →
        exec (managementStep p) s = .next (replying (credited s p rest) p .invalidEntry))) ∧
    (TakesCommand s p rest 1 ∨ TakesCommand s p rest 2 →
      (tableByte p = 0 ∨ 3 < (tableByte p).toNat ∨ (tableByte p = 1 ∧ 32 ≤ indexByte p) ∨
        (tableByte p = 2 ∧ 8 ≤ indexByte p) ∨ (tableByte p = 3 ∧ 1 ≤ indexByte p)) →
      exec (managementStep p) s = .next (replying (credited s p rest) p .invalidEntry))

/-- R181 with R33, R130 and R157: the 16 bytes of an entry are refused exactly on the conditions of the
table's validation, and the bytes of every entry within its ranges hold its fields where R181 places them and are
read back as that entry (a watch entry's hit count is not among its writable fields and is read as 0). -/
def Obligations.TableEntriesRoundTrip : Prop :=
  (∀ b : List Byte, (windowOf b = none ↔ refusedWindow b) ∧ (watchOf b = none ↔ refusedWatch b) ∧
    (configOf b = none ↔ refusedConfig b)) ∧
  (∀ e : WindowEntry, WindowForm e → WindowLayout e e.bytes ∧ windowOf e.bytes = some e) ∧
  (∀ e : WatchEntry, WatchForm e → WatchLayout e e.bytes ∧ watchOf e.bytes = some { e with hits := 0 }) ∧
  (∀ c : ConfigRecord, ConfigForm c → ConfigLayout c c.bytes ∧ configOf c.bytes = some c)

/-- R159 to R162: a manager's READ_STATUS, PROBE_LINE and LIST_PINS are answered OK with what the blocks hold
at the execution; nothing changes but that the credit is returned and the reply produced. -/
def Obligations.InspectionsReportTheState : Prop :=
  ∀ (s : State) (p : Packet) (rest : List Packet), FromManager s p →
    (TakesCommand s p rest 3 → exec .readStatus s = .next (replying (credited s p rest) p .ok (.status
      { mode := s.mode, farLink := s.farLink
        issued := tally s.txns fun e => (TxnEntry.txn? e).isSome
        orphaned := tally s.txns fun e => e == .orphaned
        evictions := tally s.eb Option.isSome
        recalls := s.recallCount
        pinsWaiting := tally s.pins fun r => r.any fun v => !v.isActive
        pinsActive := tally s.pins fun r => r.any fun v => v.isActive
        holds := tally s.holds Option.isSome
        captures := s.captures.length
        drainState := s.drain.st, cursorSet := s.drain.cursorSet, cursorWay := s.drain.cursorWay
        pendingKinds := s.notices.map Notice.kind }))) ∧
    (TakesCommand s p rest 4 → ∃ r, ProbeReports s (lineOf (addrAt (payloadOf p) 0)) r ∧
      exec .probeLine s = .next (replying (credited s p rest) p .ok (.probe r))) ∧
    (TakesCommand s p rest 5 → exec .listPins s = .next (replying (credited s p rest) p .ok (.pins
      ((List.finRange 4).filterMap fun i => (s.pins[i]).map fun v =>
        match v.st with
        | .waiting loc =>
          { index := i, owner := v.owner, line := v.line, active := false, loc := loc, remaining := 0,
            deferred := none }
        | .active loc deadline deferred =>
          { index := i, owner := v.owner, line := v.line, active := true, loc := some loc,
            remaining := deadline - s.now, deferred := deferred }))))

/-- R134, R137, R138 and R153: a manager's POP_CAPTURE removes and reports the oldest record, or answers
EMPTY. RELEASE_HOLD and DISCARD_HOLD answer INVALID_ENTRY for an index out of range, NOT_FOUND for a free
slot; DISCARD_HOLD frees the slot and answers its request WATCH_DISCARD. RELEASE_HOLD frees the slot and
admits its request from the mode check onward (R14): ISOLATED, or, in OPERATING, by the window check and what
follows it, of which DENIED and a READ of a line in S, X or M are stated here and every other admission by the
statements on the window check and the requests at the directory. Nothing is held, matched or captured again. The
command's reply comes after the request's answer. -/
def Obligations.CapturesAndHoldsAreServed : Prop :=
  ∀ (s : State) (p : Packet) (rest : List Packet), FromManager s p →
    (TakesCommand s p rest 9 →
      (∀ c left, s.captures = c :: left → exec .popCapture s = .next
        (replying { credited s p rest with captures := left } p .ok (.capture c left.length))) ∧
      (s.captures = [] → exec .popCapture s = .next (replying (credited s p rest) p .empty))) ∧
    (TakesCommand s p rest 10 ∨ TakesCommand s p rest 11 →
      (4 ≤ slotByte p → exec (managementStep p) s = .next (replying (credited s p rest) p .invalidEntry)) ∧
      (∀ i : Fin 4, slotByte p = i.val → s.holds[i] = none →
        exec (managementStep p) s = .next (replying (credited s p rest) p .notFound))) ∧
    (∀ (i : Fin 4) (q : Request), slotByte p = i.val → s.holds[i] = some q →
      (TakesCommand s p rest 11 → exec .discardHold s = .next
        (replying (responding { credited s p rest with holds := upd s.holds i none } q .watchDiscard) p .ok
          (.held q.requester q.id))) ∧
      (TakesCommand s p rest 10 →
        (s.mode = .isolated → exec .releaseHold s = .next
          (replying (responding { credited s p rest with holds := upd s.holds i none } q .isolated) p .ok
            (.held q.requester q.id))) ∧
        (s.mode = .operating → exec .releaseHold s = .next
          (replying ({ credited s p rest with holds := upd s.holds i none }.windowCheck q) p .ok
            (.held q.requester q.id))) ∧
        (s.mode = .operating → s.exempt q = false → (s.treatmentOf q.addr).policy = .deny →
          exec .releaseHold s = .next
            (replying (responding { credited s p rest with holds := upd s.holds i none } q .denied) p .ok
              (.held q.requester q.id))) ∧
        (∀ len loc st data, s.mode = .operating → q.body = .read len → ReachesDirectory s q →
          Unobstructed s q → dirWf s.dir = true → Resident s (lineOf q.addr) loc st data →
          st = .s ∨ st = .x ∨ st = .m → ∃ d, SetBecomes s.dir d loc.set
              { readSet s.dir loc.set with lru := toFront loc.way (readSet s.dir loc.set).lru } ∧
            exec .releaseHold s = .next
              (replying (responding { credited s p rest with dir := d, holds := upd s.holds i none } q .ok
                (lineBytes data (offsetOf q.addr) len)) p .ok (.held q.requester q.id)))))

/-! ## Notices, links and resets -/

/-- R15, R18 and R179: while the near link is UP and no interval runs, the notice that entered the set
earliest is taken, sent to the notice target, and an interval of 8 microseconds starts; at its end, not
before, the next notice is taken at once. Produced packets depart oldest first; the bytes that leave are the 8-byte
header of R179 and the payload of the packet's type, field by field: a RESPONSE's data, a MGMT_REPLY's reply fields,
a NOTICE's detail, with the records of R182 and the codes of R178, R179, R181 and R182. (That a command whose trigger
is absent changes nothing, the time of the expiry and the wire record are the model's, logs 1, 17 and 6.) -/
def Obligations.NoticesAreDelivered : Prop :=
  PacketCodes ∧ ∀ s : State,
    (∀ n rest, s.nearLink = .up → s.noticeInterval = none → s.notices = n :: rest →
      exec .noticeTake s = .next { s with
        notices := rest, noticeInterval := some (s.now + 8)
        egress := s.egress ++ [.notice s.config.noticeTarget n] }) ∧
    (s.nearLink = .down ∨ s.noticeInterval ≠ none ∨ s.notices = [] → exec .noticeTake s = .next s) ∧
    (∀ e n rest, s.nearLink = .up → s.noticeInterval = some e → e ≤ s.now → s.notices = n :: rest →
      exec .noticeIntervalEnd s = .next { s with
        notices := rest, noticeInterval := some (s.now + 8)
        egress := s.egress ++ [.notice s.config.noticeTarget n] }) ∧
    (∀ e, s.noticeInterval = some e → e ≤ s.now → s.notices = [] →
      exec .noticeIntervalEnd s = .next { s with noticeInterval := none }) ∧
    (∀ e, s.noticeInterval = some e → s.now < e → exec .noticeIntervalEnd s = .next s) ∧
    (∀ v rest, s.nearLink = .up → s.egress = v :: rest → NearPacketLayout v v.bytes ∧
      exec .egressDeparture s = .next { s with egress := rest, wireNear := s.wireNear ++ [v.bytes] })

/-- R17, R55, R109, R123, R139, R149, R167 and R172: what a manager's TRAFFIC_RESET leaves and what it
produces, in order: every queued request's CREDIT and RESET answer, the held requests' answers, the waiters'
in ascending tag and list order, a running drain's reply, and the command's own reply with the number of M
lines discarded; on the ack channel a NOT_HELD for every unacknowledged recall. (A queued command's RESET reply
carries no reply fields, log 12.) -/
def Obligations.TrafficResetAbandonsTraffic : Prop :=
  ∀ (s : State) (p : Packet) (rest : List Packet), Coherent s → TakesCommand s p rest 13 →
    FromManager s p → ∃ d : List (Fin 1024 × DirSet), (∀ i, readSet d i = DirSet.reset) ∧
    ∃ txns : Vector TxnEntry 32, (∀ g : Tag, txns[g] = if s.txns[g] = .free then .free else .orphaned) ∧
    ∃ credits : Vector Nat 16,
      (∀ r : Requester, credits[r] = s.credits[r] + s.ingress.countP fun v => senderOf v == r) ∧
    exec .trafficReset s = .next { s with
      ingress := []
      credits := credits
      holds := Vector.replicate 4 none
      txns := txns
      eb := Vector.replicate 4 none
      dir := d
      recallQueue := []
      recallCount := 0
      pins := Vector.replicate 4 none
      drain := drainStopped s.drain
      ackCh := ackChAfter s (s.unacknowledged.map fun r => { id := r.id, status := .notHeld })
      egress := s.egress ++ [.credit (senderOf p)]
        ++ rest.flatMap (fun v => [.credit (senderOf v), resetAnswer v])
        ++ s.holds.toList.reduceOption.map
          (fun q => .response q.requester q.id q.body.kind.code .reset [])
        ++ waiterAnswers s.allWaiters .reset ++ drainStopReplies s.drain .reset
        ++ [.mgmtReply (senderOf p) (requestIdOf p) (commandByte p) .ok (.discarded s.countM)] }

/-- R16, R17, R56, R88, R110, R123, R149, R166, R169, R171 and R174: what the link reports and REATTACH leave
and produce. At the loss of the near link every ACTIVE pin ends in ascending record index, and its deferred recall
is applied and acknowledged (R102, R111): stated for every coherent state, and, without that law, where no ACTIVE
pin holds a deferred recall. A report of the state in which the link already is changes nothing. -/
def Obligations.LinkReportsAndReattach : Prop :=
  ∀ s : State,
    (s.nearLink = .down → exec .nearLinkUp s = .next
      { s with nearLink := .up, credits := Vector.replicate 16 4 }) ∧
    (s.nearLink = .up → exec .nearLinkUp s = .next s) ∧
    (s.nearLink = .down → exec .nearLinkDown s = .next s) ∧
    (s.nearLink = .up → s.deferredRecalls = [] →
      ∃ txns : Vector TxnEntry 32,
        (∀ g : Tag, txns[g] = match s.txns[g] with
          | .issued t => .issued { t with waiters := [] }
          | e => e) ∧
      exec .nearLinkDown s = .next { s with
        nearLink := .down
        ingress := []
        egress := []
        credits := Vector.replicate 16 0
        noticeInterval := none
        holds := Vector.replicate 4 none
        txns := txns
        pins := Vector.replicate 4 none
        drain := { s.drain with pendingReply := none } }) ∧
    (s.nearLink = .up → Coherent s →
      ∃ d : List (Fin 1024 × DirSet), (∀ i, (readSet d i).lru = (readSet s.dir i).lru) ∧
      (∀ (i : Fin 4) (v : Pin) (loc : Loc) (r : RecallRecord) (st : CopyState) (x : Addr) (data : LineData),
        s.pins[i] = some v → defersAt loc r v → s.wayAt loc = .copy st x data →
        (readSet d loc.set).ways[loc.way] = afterRecall r.kind x data) ∧
      (∀ loc : Loc, (∀ i : Fin 4, ∀ v ∈ s.pins[i], ∀ r, ¬ defersAt loc r v) →
        (readSet d loc.set).ways[loc.way] = s.wayAt loc) ∧
      ∃ txns : Vector TxnEntry 32,
        (∀ g : Tag, txns[g] = match s.txns[g] with
          | .issued t => .issued { t with waiters := [] }
          | e => e) ∧
      exec .nearLinkDown s = .next { s with
        nearLink := .down
        ingress := []
        egress := []
        credits := Vector.replicate 16 0
        noticeInterval := none
        holds := Vector.replicate 4 none
        txns := txns
        pins := Vector.replicate 4 none
        dir := d
        ackCh := ackChAfter s (deferredAcks s)
        recallCount := s.recallCount - (deferredAcks s).length
        drain := { s.drain with pendingReply := none } }) ∧
    (s.farLink = .down → exec .farLinkUp s = .next { s with farLink := .up }) ∧
    (s.farLink = .up → exec .farLinkUp s = .next s) ∧
    (s.farLink = .down → exec .farLinkDown s = .next s) ∧
    (s.farLink = .up → dirWf s.dir = true →
      ∃ d, (∀ i, (∀ w : Fin 4, (readSet d i).ways[w] = .i) ∧ (readSet d i).lru = (readSet s.dir i).lru) ∧
      exec .farLinkDown s = .next (noticed { s with
        farLink := .down
        mode := .isolated
        reqCh := []
        ackCh := []
        respCh := []
        recallCh := []
        recallQueue := []
        recallCount := 0
        dir := d
        txns := Vector.replicate 32 .free
        eb := Vector.replicate 4 none
        pins := Vector.replicate 4 none
        drain := drainStopped s.drain
        egress := egressAfter s
          (waiterAnswers s.allWaiters .isolated ++ drainStopReplies s.drain .linkDown) }
        .linkLoss { lines := some s.countM })) ∧
    (∀ p rest, TakesCommand s p rest 14 → FromManager s p →
      (s.farLink = .down → exec .reattach s = .next (replying (credited s p rest) p .linkDown)) ∧
      (s.farLink = .up → exec .reattach s = .next
        (replying { credited s p rest with mode := .operating } p .ok)))
end

