-- ==== Sys2Proof/Laws/State.lean ====
section
/-! SUPPORT. One lemma per field per update: what each named update of State leaves in each field. -/

namespace Sys2Proof.Machine

/-! ### A packet produced for the requester port (R15) -/

section emit

variable (s : State) (p : NearPacket)

@[simp] theorem State.emit_nearLink : (s.emit p).nearLink = s.nearLink := rfl
@[simp] theorem State.emit_credits : (s.emit p).credits = s.credits := rfl
@[simp] theorem State.emit_ingress : (s.emit p).ingress = s.ingress := rfl
@[simp] theorem State.emit_egress : (s.emit p).egress =
    if s.nearLink = .up then s.egress ++ [p] else s.egress := rfl
@[simp] theorem State.emit_noticeInterval : (s.emit p).noticeInterval = s.noticeInterval := rfl
@[simp] theorem State.emit_watch : (s.emit p).watch = s.watch := rfl
@[simp] theorem State.emit_holds : (s.emit p).holds = s.holds := rfl
@[simp] theorem State.emit_captures : (s.emit p).captures = s.captures := rfl
@[simp] theorem State.emit_nextSeq : (s.emit p).nextSeq = s.nextSeq := rfl
@[simp] theorem State.emit_windows : (s.emit p).windows = s.windows := rfl
@[simp] theorem State.emit_dir : (s.emit p).dir = s.dir := rfl
@[simp] theorem State.emit_txns : (s.emit p).txns = s.txns := rfl
@[simp] theorem State.emit_eb : (s.emit p).eb = s.eb := rfl
@[simp] theorem State.emit_farLink : (s.emit p).farLink = s.farLink := rfl
@[simp] theorem State.emit_reqCh : (s.emit p).reqCh = s.reqCh := rfl
@[simp] theorem State.emit_ackCh : (s.emit p).ackCh = s.ackCh := rfl
@[simp] theorem State.emit_respCh : (s.emit p).respCh = s.respCh := rfl
@[simp] theorem State.emit_recallCh : (s.emit p).recallCh = s.recallCh := rfl
@[simp] theorem State.emit_recallQueue : (s.emit p).recallQueue = s.recallQueue := rfl
@[simp] theorem State.emit_recallCount : (s.emit p).recallCount = s.recallCount := rfl
@[simp] theorem State.emit_pins : (s.emit p).pins = s.pins := rfl
@[simp] theorem State.emit_drain : (s.emit p).drain = s.drain := rfl
@[simp] theorem State.emit_config : (s.emit p).config = s.config := rfl
@[simp] theorem State.emit_mode : (s.emit p).mode = s.mode := rfl
@[simp] theorem State.emit_notices : (s.emit p).notices = s.notices := rfl
@[simp] theorem State.emit_now : (s.emit p).now = s.now := rfl
@[simp] theorem State.emit_wireNear : (s.emit p).wireNear = s.wireNear := rfl
@[simp] theorem State.emit_wireRequest : (s.emit p).wireRequest = s.wireRequest := rfl
@[simp] theorem State.emit_wireAck : (s.emit p).wireAck = s.wireAck := rfl
@[simp] theorem State.emit_pending : (s.emit p).pending = s.pending := rfl

end emit

/-! ### A memory request answered (R3) -/

section answer

variable (s : State) (q : Request) (st : RespStatus) (data : List Byte)

@[simp] theorem State.answer_nearLink : (s.answer q st data).nearLink = s.nearLink := rfl
@[simp] theorem State.answer_credits : (s.answer q st data).credits = s.credits := rfl
@[simp] theorem State.answer_ingress : (s.answer q st data).ingress = s.ingress := rfl
@[simp] theorem State.answer_egress : (s.answer q st data).egress =
    if s.nearLink = .up then
      s.egress ++ [.response q.requester q.id q.body.kind.code st data] else s.egress := rfl
@[simp] theorem State.answer_noticeInterval : (s.answer q st data).noticeInterval = s.noticeInterval := rfl
@[simp] theorem State.answer_watch : (s.answer q st data).watch = s.watch := rfl
@[simp] theorem State.answer_holds : (s.answer q st data).holds = s.holds := rfl
@[simp] theorem State.answer_captures : (s.answer q st data).captures = s.captures := rfl
@[simp] theorem State.answer_nextSeq : (s.answer q st data).nextSeq = s.nextSeq := rfl
@[simp] theorem State.answer_windows : (s.answer q st data).windows = s.windows := rfl
@[simp] theorem State.answer_dir : (s.answer q st data).dir = s.dir := rfl
@[simp] theorem State.answer_txns : (s.answer q st data).txns = s.txns := rfl
@[simp] theorem State.answer_eb : (s.answer q st data).eb = s.eb := rfl
@[simp] theorem State.answer_farLink : (s.answer q st data).farLink = s.farLink := rfl
@[simp] theorem State.answer_reqCh : (s.answer q st data).reqCh = s.reqCh := rfl
@[simp] theorem State.answer_ackCh : (s.answer q st data).ackCh = s.ackCh := rfl
@[simp] theorem State.answer_respCh : (s.answer q st data).respCh = s.respCh := rfl
@[simp] theorem State.answer_recallCh : (s.answer q st data).recallCh = s.recallCh := rfl
@[simp] theorem State.answer_recallQueue : (s.answer q st data).recallQueue = s.recallQueue := rfl
@[simp] theorem State.answer_recallCount : (s.answer q st data).recallCount = s.recallCount := rfl
@[simp] theorem State.answer_pins : (s.answer q st data).pins = s.pins := rfl
@[simp] theorem State.answer_drain : (s.answer q st data).drain = s.drain := rfl
@[simp] theorem State.answer_config : (s.answer q st data).config = s.config := rfl
@[simp] theorem State.answer_mode : (s.answer q st data).mode = s.mode := rfl
@[simp] theorem State.answer_notices : (s.answer q st data).notices = s.notices := rfl
@[simp] theorem State.answer_now : (s.answer q st data).now = s.now := rfl
@[simp] theorem State.answer_wireNear : (s.answer q st data).wireNear = s.wireNear := rfl
@[simp] theorem State.answer_wireRequest : (s.answer q st data).wireRequest = s.wireRequest := rfl
@[simp] theorem State.answer_wireAck : (s.answer q st data).wireAck = s.wireAck := rfl
@[simp] theorem State.answer_pending : (s.answer q st data).pending = s.pending := rfl

end answer

/-! ### A waiter answered (R3, R60) -/

section answerWaiter

variable (s : State) (w : Waiter) (st : RespStatus) (data : List Byte)

@[simp] theorem State.answerWaiter_nearLink : (s.answerWaiter w st data).nearLink = s.nearLink := rfl
@[simp] theorem State.answerWaiter_credits : (s.answerWaiter w st data).credits = s.credits := rfl
@[simp] theorem State.answerWaiter_ingress : (s.answerWaiter w st data).ingress = s.ingress := rfl
@[simp] theorem State.answerWaiter_egress : (s.answerWaiter w st data).egress =
    if s.nearLink = .up then
      s.egress ++ [.response w.requester w.id w.access.kind.code st data] else s.egress := rfl
@[simp] theorem State.answerWaiter_noticeInterval : (s.answerWaiter w st data).noticeInterval = s.noticeInterval := rfl
@[simp] theorem State.answerWaiter_watch : (s.answerWaiter w st data).watch = s.watch := rfl
@[simp] theorem State.answerWaiter_holds : (s.answerWaiter w st data).holds = s.holds := rfl
@[simp] theorem State.answerWaiter_captures : (s.answerWaiter w st data).captures = s.captures := rfl
@[simp] theorem State.answerWaiter_nextSeq : (s.answerWaiter w st data).nextSeq = s.nextSeq := rfl
@[simp] theorem State.answerWaiter_windows : (s.answerWaiter w st data).windows = s.windows := rfl
@[simp] theorem State.answerWaiter_dir : (s.answerWaiter w st data).dir = s.dir := rfl
@[simp] theorem State.answerWaiter_txns : (s.answerWaiter w st data).txns = s.txns := rfl
@[simp] theorem State.answerWaiter_eb : (s.answerWaiter w st data).eb = s.eb := rfl
@[simp] theorem State.answerWaiter_farLink : (s.answerWaiter w st data).farLink = s.farLink := rfl
@[simp] theorem State.answerWaiter_reqCh : (s.answerWaiter w st data).reqCh = s.reqCh := rfl
@[simp] theorem State.answerWaiter_ackCh : (s.answerWaiter w st data).ackCh = s.ackCh := rfl
@[simp] theorem State.answerWaiter_respCh : (s.answerWaiter w st data).respCh = s.respCh := rfl
@[simp] theorem State.answerWaiter_recallCh : (s.answerWaiter w st data).recallCh = s.recallCh := rfl
@[simp] theorem State.answerWaiter_recallQueue : (s.answerWaiter w st data).recallQueue = s.recallQueue := rfl
@[simp] theorem State.answerWaiter_recallCount : (s.answerWaiter w st data).recallCount = s.recallCount := rfl
@[simp] theorem State.answerWaiter_pins : (s.answerWaiter w st data).pins = s.pins := rfl
@[simp] theorem State.answerWaiter_drain : (s.answerWaiter w st data).drain = s.drain := rfl
@[simp] theorem State.answerWaiter_config : (s.answerWaiter w st data).config = s.config := rfl
@[simp] theorem State.answerWaiter_mode : (s.answerWaiter w st data).mode = s.mode := rfl
@[simp] theorem State.answerWaiter_notices : (s.answerWaiter w st data).notices = s.notices := rfl
@[simp] theorem State.answerWaiter_now : (s.answerWaiter w st data).now = s.now := rfl
@[simp] theorem State.answerWaiter_wireNear : (s.answerWaiter w st data).wireNear = s.wireNear := rfl
@[simp] theorem State.answerWaiter_wireRequest : (s.answerWaiter w st data).wireRequest = s.wireRequest := rfl
@[simp] theorem State.answerWaiter_wireAck : (s.answerWaiter w st data).wireAck = s.wireAck := rfl
@[simp] theorem State.answerWaiter_pending : (s.answerWaiter w st data).pending = s.pending := rfl

end answerWaiter

/-! ### A packet answered with its kind as it arrived (R3, R10) -/

section answerPacket

variable (s : State) (p : Packet) (st : RespStatus)

@[simp] theorem State.answerPacket_nearLink : (s.answerPacket p st).nearLink = s.nearLink := rfl
@[simp] theorem State.answerPacket_credits : (s.answerPacket p st).credits = s.credits := rfl
@[simp] theorem State.answerPacket_ingress : (s.answerPacket p st).ingress = s.ingress := rfl
@[simp] theorem State.answerPacket_egress : (s.answerPacket p st).egress =
    if s.nearLink = .up then
      s.egress ++ [.response (senderOf p) (requestIdOf p) (kindByte p) st []] else s.egress := rfl
@[simp] theorem State.answerPacket_noticeInterval : (s.answerPacket p st).noticeInterval = s.noticeInterval := rfl
@[simp] theorem State.answerPacket_watch : (s.answerPacket p st).watch = s.watch := rfl
@[simp] theorem State.answerPacket_holds : (s.answerPacket p st).holds = s.holds := rfl
@[simp] theorem State.answerPacket_captures : (s.answerPacket p st).captures = s.captures := rfl
@[simp] theorem State.answerPacket_nextSeq : (s.answerPacket p st).nextSeq = s.nextSeq := rfl
@[simp] theorem State.answerPacket_windows : (s.answerPacket p st).windows = s.windows := rfl
@[simp] theorem State.answerPacket_dir : (s.answerPacket p st).dir = s.dir := rfl
@[simp] theorem State.answerPacket_txns : (s.answerPacket p st).txns = s.txns := rfl
@[simp] theorem State.answerPacket_eb : (s.answerPacket p st).eb = s.eb := rfl
@[simp] theorem State.answerPacket_farLink : (s.answerPacket p st).farLink = s.farLink := rfl
@[simp] theorem State.answerPacket_reqCh : (s.answerPacket p st).reqCh = s.reqCh := rfl
@[simp] theorem State.answerPacket_ackCh : (s.answerPacket p st).ackCh = s.ackCh := rfl
@[simp] theorem State.answerPacket_respCh : (s.answerPacket p st).respCh = s.respCh := rfl
@[simp] theorem State.answerPacket_recallCh : (s.answerPacket p st).recallCh = s.recallCh := rfl
@[simp] theorem State.answerPacket_recallQueue : (s.answerPacket p st).recallQueue = s.recallQueue := rfl
@[simp] theorem State.answerPacket_recallCount : (s.answerPacket p st).recallCount = s.recallCount := rfl
@[simp] theorem State.answerPacket_pins : (s.answerPacket p st).pins = s.pins := rfl
@[simp] theorem State.answerPacket_drain : (s.answerPacket p st).drain = s.drain := rfl
@[simp] theorem State.answerPacket_config : (s.answerPacket p st).config = s.config := rfl
@[simp] theorem State.answerPacket_mode : (s.answerPacket p st).mode = s.mode := rfl
@[simp] theorem State.answerPacket_notices : (s.answerPacket p st).notices = s.notices := rfl
@[simp] theorem State.answerPacket_now : (s.answerPacket p st).now = s.now := rfl
@[simp] theorem State.answerPacket_wireNear : (s.answerPacket p st).wireNear = s.wireNear := rfl
@[simp] theorem State.answerPacket_wireRequest : (s.answerPacket p st).wireRequest = s.wireRequest := rfl
@[simp] theorem State.answerPacket_wireAck : (s.answerPacket p st).wireAck = s.wireAck := rfl
@[simp] theorem State.answerPacket_pending : (s.answerPacket p st).pending = s.pending := rfl

end answerPacket

/-! ### A command answered (R151) -/

section reply

variable (s : State) (p : Packet) (st : MgmtStatus) (f : ReplyFields)

@[simp] theorem State.reply_nearLink : (s.reply p st f).nearLink = s.nearLink := rfl
@[simp] theorem State.reply_credits : (s.reply p st f).credits = s.credits := rfl
@[simp] theorem State.reply_ingress : (s.reply p st f).ingress = s.ingress := rfl
@[simp] theorem State.reply_egress : (s.reply p st f).egress =
    if s.nearLink = .up then
      s.egress ++ [.mgmtReply (senderOf p) (requestIdOf p) (commandByte p) st f] else s.egress := rfl
@[simp] theorem State.reply_noticeInterval : (s.reply p st f).noticeInterval = s.noticeInterval := rfl
@[simp] theorem State.reply_watch : (s.reply p st f).watch = s.watch := rfl
@[simp] theorem State.reply_holds : (s.reply p st f).holds = s.holds := rfl
@[simp] theorem State.reply_captures : (s.reply p st f).captures = s.captures := rfl
@[simp] theorem State.reply_nextSeq : (s.reply p st f).nextSeq = s.nextSeq := rfl
@[simp] theorem State.reply_windows : (s.reply p st f).windows = s.windows := rfl
@[simp] theorem State.reply_dir : (s.reply p st f).dir = s.dir := rfl
@[simp] theorem State.reply_txns : (s.reply p st f).txns = s.txns := rfl
@[simp] theorem State.reply_eb : (s.reply p st f).eb = s.eb := rfl
@[simp] theorem State.reply_farLink : (s.reply p st f).farLink = s.farLink := rfl
@[simp] theorem State.reply_reqCh : (s.reply p st f).reqCh = s.reqCh := rfl
@[simp] theorem State.reply_ackCh : (s.reply p st f).ackCh = s.ackCh := rfl
@[simp] theorem State.reply_respCh : (s.reply p st f).respCh = s.respCh := rfl
@[simp] theorem State.reply_recallCh : (s.reply p st f).recallCh = s.recallCh := rfl
@[simp] theorem State.reply_recallQueue : (s.reply p st f).recallQueue = s.recallQueue := rfl
@[simp] theorem State.reply_recallCount : (s.reply p st f).recallCount = s.recallCount := rfl
@[simp] theorem State.reply_pins : (s.reply p st f).pins = s.pins := rfl
@[simp] theorem State.reply_drain : (s.reply p st f).drain = s.drain := rfl
@[simp] theorem State.reply_config : (s.reply p st f).config = s.config := rfl
@[simp] theorem State.reply_mode : (s.reply p st f).mode = s.mode := rfl
@[simp] theorem State.reply_notices : (s.reply p st f).notices = s.notices := rfl
@[simp] theorem State.reply_now : (s.reply p st f).now = s.now := rfl
@[simp] theorem State.reply_wireNear : (s.reply p st f).wireNear = s.wireNear := rfl
@[simp] theorem State.reply_wireRequest : (s.reply p st f).wireRequest = s.wireRequest := rfl
@[simp] theorem State.reply_wireAck : (s.reply p st f).wireAck = s.wireAck := rfl
@[simp] theorem State.reply_pending : (s.reply p st f).pending = s.pending := rfl

end reply

/-! ### The oldest ingress packet taken (R6) -/

section takeHead

variable (s : State) (p : Packet) (rest : List Packet)

@[simp] theorem State.takeHead_nearLink : (s.takeHead p rest).nearLink = s.nearLink := rfl
@[simp] theorem State.takeHead_credits : (s.takeHead p rest).credits =
    upd s.credits (senderOf p) (s.credits[senderOf p] + 1) := rfl
@[simp] theorem State.takeHead_ingress : (s.takeHead p rest).ingress =
    rest := rfl
@[simp] theorem State.takeHead_egress : (s.takeHead p rest).egress =
    if s.nearLink = .up then s.egress ++ [.credit (senderOf p)] else s.egress := rfl
@[simp] theorem State.takeHead_noticeInterval : (s.takeHead p rest).noticeInterval = s.noticeInterval := rfl
@[simp] theorem State.takeHead_watch : (s.takeHead p rest).watch = s.watch := rfl
@[simp] theorem State.takeHead_holds : (s.takeHead p rest).holds = s.holds := rfl
@[simp] theorem State.takeHead_captures : (s.takeHead p rest).captures = s.captures := rfl
@[simp] theorem State.takeHead_nextSeq : (s.takeHead p rest).nextSeq = s.nextSeq := rfl
@[simp] theorem State.takeHead_windows : (s.takeHead p rest).windows = s.windows := rfl
@[simp] theorem State.takeHead_dir : (s.takeHead p rest).dir = s.dir := rfl
@[simp] theorem State.takeHead_txns : (s.takeHead p rest).txns = s.txns := rfl
@[simp] theorem State.takeHead_eb : (s.takeHead p rest).eb = s.eb := rfl
@[simp] theorem State.takeHead_farLink : (s.takeHead p rest).farLink = s.farLink := rfl
@[simp] theorem State.takeHead_reqCh : (s.takeHead p rest).reqCh = s.reqCh := rfl
@[simp] theorem State.takeHead_ackCh : (s.takeHead p rest).ackCh = s.ackCh := rfl
@[simp] theorem State.takeHead_respCh : (s.takeHead p rest).respCh = s.respCh := rfl
@[simp] theorem State.takeHead_recallCh : (s.takeHead p rest).recallCh = s.recallCh := rfl
@[simp] theorem State.takeHead_recallQueue : (s.takeHead p rest).recallQueue = s.recallQueue := rfl
@[simp] theorem State.takeHead_recallCount : (s.takeHead p rest).recallCount = s.recallCount := rfl
@[simp] theorem State.takeHead_pins : (s.takeHead p rest).pins = s.pins := rfl
@[simp] theorem State.takeHead_drain : (s.takeHead p rest).drain = s.drain := rfl
@[simp] theorem State.takeHead_config : (s.takeHead p rest).config = s.config := rfl
@[simp] theorem State.takeHead_mode : (s.takeHead p rest).mode = s.mode := rfl
@[simp] theorem State.takeHead_notices : (s.takeHead p rest).notices = s.notices := rfl
@[simp] theorem State.takeHead_now : (s.takeHead p rest).now = s.now := rfl
@[simp] theorem State.takeHead_wireNear : (s.takeHead p rest).wireNear = s.wireNear := rfl
@[simp] theorem State.takeHead_wireRequest : (s.takeHead p rest).wireRequest = s.wireRequest := rfl
@[simp] theorem State.takeHead_wireAck : (s.takeHead p rest).wireAck = s.wireAck := rfl
@[simp] theorem State.takeHead_pending : (s.takeHead p rest).pending = s.pending := rfl

end takeHead

/-! ### A far request produced (R62) -/

section sendFar

variable (s : State) (r : FarRequest)

@[simp] theorem State.sendFar_nearLink : (s.sendFar r).nearLink = s.nearLink := rfl
@[simp] theorem State.sendFar_credits : (s.sendFar r).credits = s.credits := rfl
@[simp] theorem State.sendFar_ingress : (s.sendFar r).ingress = s.ingress := rfl
@[simp] theorem State.sendFar_egress : (s.sendFar r).egress = s.egress := rfl
@[simp] theorem State.sendFar_noticeInterval : (s.sendFar r).noticeInterval = s.noticeInterval := rfl
@[simp] theorem State.sendFar_watch : (s.sendFar r).watch = s.watch := rfl
@[simp] theorem State.sendFar_holds : (s.sendFar r).holds = s.holds := rfl
@[simp] theorem State.sendFar_captures : (s.sendFar r).captures = s.captures := rfl
@[simp] theorem State.sendFar_nextSeq : (s.sendFar r).nextSeq = s.nextSeq := rfl
@[simp] theorem State.sendFar_windows : (s.sendFar r).windows = s.windows := rfl
@[simp] theorem State.sendFar_dir : (s.sendFar r).dir = s.dir := rfl
@[simp] theorem State.sendFar_txns : (s.sendFar r).txns = s.txns := rfl
@[simp] theorem State.sendFar_eb : (s.sendFar r).eb = s.eb := rfl
@[simp] theorem State.sendFar_farLink : (s.sendFar r).farLink = s.farLink := rfl
@[simp] theorem State.sendFar_reqCh : (s.sendFar r).reqCh =
    if s.farLink = .up then s.reqCh ++ [r] else s.reqCh := rfl
@[simp] theorem State.sendFar_ackCh : (s.sendFar r).ackCh = s.ackCh := rfl
@[simp] theorem State.sendFar_respCh : (s.sendFar r).respCh = s.respCh := rfl
@[simp] theorem State.sendFar_recallCh : (s.sendFar r).recallCh = s.recallCh := rfl
@[simp] theorem State.sendFar_recallQueue : (s.sendFar r).recallQueue = s.recallQueue := rfl
@[simp] theorem State.sendFar_recallCount : (s.sendFar r).recallCount = s.recallCount := rfl
@[simp] theorem State.sendFar_pins : (s.sendFar r).pins = s.pins := rfl
@[simp] theorem State.sendFar_drain : (s.sendFar r).drain = s.drain := rfl
@[simp] theorem State.sendFar_config : (s.sendFar r).config = s.config := rfl
@[simp] theorem State.sendFar_mode : (s.sendFar r).mode = s.mode := rfl
@[simp] theorem State.sendFar_notices : (s.sendFar r).notices = s.notices := rfl
@[simp] theorem State.sendFar_now : (s.sendFar r).now = s.now := rfl
@[simp] theorem State.sendFar_wireNear : (s.sendFar r).wireNear = s.wireNear := rfl
@[simp] theorem State.sendFar_wireRequest : (s.sendFar r).wireRequest = s.wireRequest := rfl
@[simp] theorem State.sendFar_wireAck : (s.sendFar r).wireAck = s.wireAck := rfl
@[simp] theorem State.sendFar_pending : (s.sendFar r).pending = s.pending := rfl

end sendFar

/-! ### An acknowledgement produced (R62, R91) -/

section sendAck

variable (s : State) (id : Byte) (st : AckStatus)

@[simp] theorem State.sendAck_nearLink : (s.sendAck id st).nearLink = s.nearLink := rfl
@[simp] theorem State.sendAck_credits : (s.sendAck id st).credits = s.credits := rfl
@[simp] theorem State.sendAck_ingress : (s.sendAck id st).ingress = s.ingress := rfl
@[simp] theorem State.sendAck_egress : (s.sendAck id st).egress = s.egress := rfl
@[simp] theorem State.sendAck_noticeInterval : (s.sendAck id st).noticeInterval = s.noticeInterval := rfl
@[simp] theorem State.sendAck_watch : (s.sendAck id st).watch = s.watch := rfl
@[simp] theorem State.sendAck_holds : (s.sendAck id st).holds = s.holds := rfl
@[simp] theorem State.sendAck_captures : (s.sendAck id st).captures = s.captures := rfl
@[simp] theorem State.sendAck_nextSeq : (s.sendAck id st).nextSeq = s.nextSeq := rfl
@[simp] theorem State.sendAck_windows : (s.sendAck id st).windows = s.windows := rfl
@[simp] theorem State.sendAck_dir : (s.sendAck id st).dir = s.dir := rfl
@[simp] theorem State.sendAck_txns : (s.sendAck id st).txns = s.txns := rfl
@[simp] theorem State.sendAck_eb : (s.sendAck id st).eb = s.eb := rfl
@[simp] theorem State.sendAck_farLink : (s.sendAck id st).farLink = s.farLink := rfl
@[simp] theorem State.sendAck_reqCh : (s.sendAck id st).reqCh = s.reqCh := rfl
@[simp] theorem State.sendAck_ackCh : (s.sendAck id st).ackCh =
    if s.farLink = .up then s.ackCh ++ [{ id := id, status := st }] else s.ackCh := rfl
@[simp] theorem State.sendAck_respCh : (s.sendAck id st).respCh = s.respCh := rfl
@[simp] theorem State.sendAck_recallCh : (s.sendAck id st).recallCh = s.recallCh := rfl
@[simp] theorem State.sendAck_recallQueue : (s.sendAck id st).recallQueue = s.recallQueue := rfl
@[simp] theorem State.sendAck_recallCount : (s.sendAck id st).recallCount = s.recallCount := rfl
@[simp] theorem State.sendAck_pins : (s.sendAck id st).pins = s.pins := rfl
@[simp] theorem State.sendAck_drain : (s.sendAck id st).drain = s.drain := rfl
@[simp] theorem State.sendAck_config : (s.sendAck id st).config = s.config := rfl
@[simp] theorem State.sendAck_mode : (s.sendAck id st).mode = s.mode := rfl
@[simp] theorem State.sendAck_notices : (s.sendAck id st).notices = s.notices := rfl
@[simp] theorem State.sendAck_now : (s.sendAck id st).now = s.now := rfl
@[simp] theorem State.sendAck_wireNear : (s.sendAck id st).wireNear = s.wireNear := rfl
@[simp] theorem State.sendAck_wireRequest : (s.sendAck id st).wireRequest = s.wireRequest := rfl
@[simp] theorem State.sendAck_wireAck : (s.sendAck id st).wireAck = s.wireAck := rfl
@[simp] theorem State.sendAck_pending : (s.sendAck id st).pending = s.pending := rfl

end sendAck

/-! ### An unacknowledged recall acknowledged (R92) -/

section ackRecall

variable (s : State) (id : Byte) (st : AckStatus)

@[simp] theorem State.ackRecall_nearLink : (s.ackRecall id st).nearLink = s.nearLink := rfl
@[simp] theorem State.ackRecall_credits : (s.ackRecall id st).credits = s.credits := rfl
@[simp] theorem State.ackRecall_ingress : (s.ackRecall id st).ingress = s.ingress := rfl
@[simp] theorem State.ackRecall_egress : (s.ackRecall id st).egress = s.egress := rfl
@[simp] theorem State.ackRecall_noticeInterval : (s.ackRecall id st).noticeInterval = s.noticeInterval := rfl
@[simp] theorem State.ackRecall_watch : (s.ackRecall id st).watch = s.watch := rfl
@[simp] theorem State.ackRecall_holds : (s.ackRecall id st).holds = s.holds := rfl
@[simp] theorem State.ackRecall_captures : (s.ackRecall id st).captures = s.captures := rfl
@[simp] theorem State.ackRecall_nextSeq : (s.ackRecall id st).nextSeq = s.nextSeq := rfl
@[simp] theorem State.ackRecall_windows : (s.ackRecall id st).windows = s.windows := rfl
@[simp] theorem State.ackRecall_dir : (s.ackRecall id st).dir = s.dir := rfl
@[simp] theorem State.ackRecall_txns : (s.ackRecall id st).txns = s.txns := rfl
@[simp] theorem State.ackRecall_eb : (s.ackRecall id st).eb = s.eb := rfl
@[simp] theorem State.ackRecall_farLink : (s.ackRecall id st).farLink = s.farLink := rfl
@[simp] theorem State.ackRecall_reqCh : (s.ackRecall id st).reqCh = s.reqCh := rfl
@[simp] theorem State.ackRecall_ackCh : (s.ackRecall id st).ackCh =
    if s.farLink = .up then s.ackCh ++ [{ id := id, status := st }] else s.ackCh := rfl
@[simp] theorem State.ackRecall_respCh : (s.ackRecall id st).respCh = s.respCh := rfl
@[simp] theorem State.ackRecall_recallCh : (s.ackRecall id st).recallCh = s.recallCh := rfl
@[simp] theorem State.ackRecall_recallQueue : (s.ackRecall id st).recallQueue = s.recallQueue := rfl
@[simp] theorem State.ackRecall_recallCount : (s.ackRecall id st).recallCount =
    s.recallCount - 1 := rfl
@[simp] theorem State.ackRecall_pins : (s.ackRecall id st).pins = s.pins := rfl
@[simp] theorem State.ackRecall_drain : (s.ackRecall id st).drain = s.drain := rfl
@[simp] theorem State.ackRecall_config : (s.ackRecall id st).config = s.config := rfl
@[simp] theorem State.ackRecall_mode : (s.ackRecall id st).mode = s.mode := rfl
@[simp] theorem State.ackRecall_notices : (s.ackRecall id st).notices = s.notices := rfl
@[simp] theorem State.ackRecall_now : (s.ackRecall id st).now = s.now := rfl
@[simp] theorem State.ackRecall_wireNear : (s.ackRecall id st).wireNear = s.wireNear := rfl
@[simp] theorem State.ackRecall_wireRequest : (s.ackRecall id st).wireRequest = s.wireRequest := rfl
@[simp] theorem State.ackRecall_wireAck : (s.ackRecall id st).wireAck = s.wireAck := rfl
@[simp] theorem State.ackRecall_pending : (s.ackRecall id st).pending = s.pending := rfl

end ackRecall

/-! ### A way replaced (R35) -/

section putWay

variable (s : State) (l : Loc) (w : Way)

@[simp] theorem State.putWay_nearLink : (s.putWay l w).nearLink = s.nearLink := rfl
@[simp] theorem State.putWay_credits : (s.putWay l w).credits = s.credits := rfl
@[simp] theorem State.putWay_ingress : (s.putWay l w).ingress = s.ingress := rfl
@[simp] theorem State.putWay_egress : (s.putWay l w).egress = s.egress := rfl
@[simp] theorem State.putWay_noticeInterval : (s.putWay l w).noticeInterval = s.noticeInterval := rfl
@[simp] theorem State.putWay_watch : (s.putWay l w).watch = s.watch := rfl
@[simp] theorem State.putWay_holds : (s.putWay l w).holds = s.holds := rfl
@[simp] theorem State.putWay_captures : (s.putWay l w).captures = s.captures := rfl
@[simp] theorem State.putWay_nextSeq : (s.putWay l w).nextSeq = s.nextSeq := rfl
@[simp] theorem State.putWay_windows : (s.putWay l w).windows = s.windows := rfl
@[simp] theorem State.putWay_dir : (s.putWay l w).dir =
    writeSet s.dir l.set { readSet s.dir l.set with
      ways := upd (readSet s.dir l.set).ways l.way w } := rfl
@[simp] theorem State.putWay_txns : (s.putWay l w).txns = s.txns := rfl
@[simp] theorem State.putWay_eb : (s.putWay l w).eb = s.eb := rfl
@[simp] theorem State.putWay_farLink : (s.putWay l w).farLink = s.farLink := rfl
@[simp] theorem State.putWay_reqCh : (s.putWay l w).reqCh = s.reqCh := rfl
@[simp] theorem State.putWay_ackCh : (s.putWay l w).ackCh = s.ackCh := rfl
@[simp] theorem State.putWay_respCh : (s.putWay l w).respCh = s.respCh := rfl
@[simp] theorem State.putWay_recallCh : (s.putWay l w).recallCh = s.recallCh := rfl
@[simp] theorem State.putWay_recallQueue : (s.putWay l w).recallQueue = s.recallQueue := rfl
@[simp] theorem State.putWay_recallCount : (s.putWay l w).recallCount = s.recallCount := rfl
@[simp] theorem State.putWay_pins : (s.putWay l w).pins = s.pins := rfl
@[simp] theorem State.putWay_drain : (s.putWay l w).drain = s.drain := rfl
@[simp] theorem State.putWay_config : (s.putWay l w).config = s.config := rfl
@[simp] theorem State.putWay_mode : (s.putWay l w).mode = s.mode := rfl
@[simp] theorem State.putWay_notices : (s.putWay l w).notices = s.notices := rfl
@[simp] theorem State.putWay_now : (s.putWay l w).now = s.now := rfl
@[simp] theorem State.putWay_wireNear : (s.putWay l w).wireNear = s.wireNear := rfl
@[simp] theorem State.putWay_wireRequest : (s.putWay l w).wireRequest = s.wireRequest := rfl
@[simp] theorem State.putWay_wireAck : (s.putWay l w).wireAck = s.wireAck := rfl
@[simp] theorem State.putWay_pending : (s.putWay l w).pending = s.pending := rfl

end putWay

/-! ### A way moved to the front (R40) -/

section touch

variable (s : State) (l : Loc)

@[simp] theorem State.touch_nearLink : (s.touch l).nearLink = s.nearLink := rfl
@[simp] theorem State.touch_credits : (s.touch l).credits = s.credits := rfl
@[simp] theorem State.touch_ingress : (s.touch l).ingress = s.ingress := rfl
@[simp] theorem State.touch_egress : (s.touch l).egress = s.egress := rfl
@[simp] theorem State.touch_noticeInterval : (s.touch l).noticeInterval = s.noticeInterval := rfl
@[simp] theorem State.touch_watch : (s.touch l).watch = s.watch := rfl
@[simp] theorem State.touch_holds : (s.touch l).holds = s.holds := rfl
@[simp] theorem State.touch_captures : (s.touch l).captures = s.captures := rfl
@[simp] theorem State.touch_nextSeq : (s.touch l).nextSeq = s.nextSeq := rfl
@[simp] theorem State.touch_windows : (s.touch l).windows = s.windows := rfl
@[simp] theorem State.touch_dir : (s.touch l).dir =
    writeSet s.dir l.set { readSet s.dir l.set with
      lru := toFront l.way (readSet s.dir l.set).lru } := rfl
@[simp] theorem State.touch_txns : (s.touch l).txns = s.txns := rfl
@[simp] theorem State.touch_eb : (s.touch l).eb = s.eb := rfl
@[simp] theorem State.touch_farLink : (s.touch l).farLink = s.farLink := rfl
@[simp] theorem State.touch_reqCh : (s.touch l).reqCh = s.reqCh := rfl
@[simp] theorem State.touch_ackCh : (s.touch l).ackCh = s.ackCh := rfl
@[simp] theorem State.touch_respCh : (s.touch l).respCh = s.respCh := rfl
@[simp] theorem State.touch_recallCh : (s.touch l).recallCh = s.recallCh := rfl
@[simp] theorem State.touch_recallQueue : (s.touch l).recallQueue = s.recallQueue := rfl
@[simp] theorem State.touch_recallCount : (s.touch l).recallCount = s.recallCount := rfl
@[simp] theorem State.touch_pins : (s.touch l).pins = s.pins := rfl
@[simp] theorem State.touch_drain : (s.touch l).drain = s.drain := rfl
@[simp] theorem State.touch_config : (s.touch l).config = s.config := rfl
@[simp] theorem State.touch_mode : (s.touch l).mode = s.mode := rfl
@[simp] theorem State.touch_notices : (s.touch l).notices = s.notices := rfl
@[simp] theorem State.touch_now : (s.touch l).now = s.now := rfl
@[simp] theorem State.touch_wireNear : (s.touch l).wireNear = s.wireNear := rfl
@[simp] theorem State.touch_wireRequest : (s.touch l).wireRequest = s.wireRequest := rfl
@[simp] theorem State.touch_wireAck : (s.touch l).wireAck = s.wireAck := rfl
@[simp] theorem State.touch_pending : (s.touch l).pending = s.pending := rfl

end touch

/-! ### A transaction entry replaced (R58) -/

section putEntry

variable (s : State) (g : Tag) (e : TxnEntry)

@[simp] theorem State.putEntry_nearLink : (s.putEntry g e).nearLink = s.nearLink := rfl
@[simp] theorem State.putEntry_credits : (s.putEntry g e).credits = s.credits := rfl
@[simp] theorem State.putEntry_ingress : (s.putEntry g e).ingress = s.ingress := rfl
@[simp] theorem State.putEntry_egress : (s.putEntry g e).egress = s.egress := rfl
@[simp] theorem State.putEntry_noticeInterval : (s.putEntry g e).noticeInterval = s.noticeInterval := rfl
@[simp] theorem State.putEntry_watch : (s.putEntry g e).watch = s.watch := rfl
@[simp] theorem State.putEntry_holds : (s.putEntry g e).holds = s.holds := rfl
@[simp] theorem State.putEntry_captures : (s.putEntry g e).captures = s.captures := rfl
@[simp] theorem State.putEntry_nextSeq : (s.putEntry g e).nextSeq = s.nextSeq := rfl
@[simp] theorem State.putEntry_windows : (s.putEntry g e).windows = s.windows := rfl
@[simp] theorem State.putEntry_dir : (s.putEntry g e).dir = s.dir := rfl
@[simp] theorem State.putEntry_txns : (s.putEntry g e).txns =
    upd s.txns g e := rfl
@[simp] theorem State.putEntry_eb : (s.putEntry g e).eb = s.eb := rfl
@[simp] theorem State.putEntry_farLink : (s.putEntry g e).farLink = s.farLink := rfl
@[simp] theorem State.putEntry_reqCh : (s.putEntry g e).reqCh = s.reqCh := rfl
@[simp] theorem State.putEntry_ackCh : (s.putEntry g e).ackCh = s.ackCh := rfl
@[simp] theorem State.putEntry_respCh : (s.putEntry g e).respCh = s.respCh := rfl
@[simp] theorem State.putEntry_recallCh : (s.putEntry g e).recallCh = s.recallCh := rfl
@[simp] theorem State.putEntry_recallQueue : (s.putEntry g e).recallQueue = s.recallQueue := rfl
@[simp] theorem State.putEntry_recallCount : (s.putEntry g e).recallCount = s.recallCount := rfl
@[simp] theorem State.putEntry_pins : (s.putEntry g e).pins = s.pins := rfl
@[simp] theorem State.putEntry_drain : (s.putEntry g e).drain = s.drain := rfl
@[simp] theorem State.putEntry_config : (s.putEntry g e).config = s.config := rfl
@[simp] theorem State.putEntry_mode : (s.putEntry g e).mode = s.mode := rfl
@[simp] theorem State.putEntry_notices : (s.putEntry g e).notices = s.notices := rfl
@[simp] theorem State.putEntry_now : (s.putEntry g e).now = s.now := rfl
@[simp] theorem State.putEntry_wireNear : (s.putEntry g e).wireNear = s.wireNear := rfl
@[simp] theorem State.putEntry_wireRequest : (s.putEntry g e).wireRequest = s.wireRequest := rfl
@[simp] theorem State.putEntry_wireAck : (s.putEntry g e).wireAck = s.wireAck := rfl
@[simp] theorem State.putEntry_pending : (s.putEntry g e).pending = s.pending := rfl

end putEntry

/-! ### A transaction entry freed (R59, R145) -/

section releaseTag

variable (s : State) (g : Tag)

@[simp] theorem State.releaseTag_nearLink : (s.releaseTag g).nearLink = s.nearLink := rfl
@[simp] theorem State.releaseTag_credits : (s.releaseTag g).credits = s.credits := rfl
@[simp] theorem State.releaseTag_ingress : (s.releaseTag g).ingress = s.ingress := rfl
@[simp] theorem State.releaseTag_egress : (s.releaseTag g).egress = s.egress := rfl
@[simp] theorem State.releaseTag_noticeInterval : (s.releaseTag g).noticeInterval = s.noticeInterval := rfl
@[simp] theorem State.releaseTag_watch : (s.releaseTag g).watch = s.watch := rfl
@[simp] theorem State.releaseTag_holds : (s.releaseTag g).holds = s.holds := rfl
@[simp] theorem State.releaseTag_captures : (s.releaseTag g).captures = s.captures := rfl
@[simp] theorem State.releaseTag_nextSeq : (s.releaseTag g).nextSeq = s.nextSeq := rfl
@[simp] theorem State.releaseTag_windows : (s.releaseTag g).windows = s.windows := rfl
@[simp] theorem State.releaseTag_dir : (s.releaseTag g).dir = s.dir := rfl
@[simp] theorem State.releaseTag_txns : (s.releaseTag g).txns =
    upd s.txns g .free := rfl
@[simp] theorem State.releaseTag_eb : (s.releaseTag g).eb = s.eb := rfl
@[simp] theorem State.releaseTag_farLink : (s.releaseTag g).farLink = s.farLink := rfl
@[simp] theorem State.releaseTag_reqCh : (s.releaseTag g).reqCh = s.reqCh := rfl
@[simp] theorem State.releaseTag_ackCh : (s.releaseTag g).ackCh = s.ackCh := rfl
@[simp] theorem State.releaseTag_respCh : (s.releaseTag g).respCh = s.respCh := rfl
@[simp] theorem State.releaseTag_recallCh : (s.releaseTag g).recallCh = s.recallCh := rfl
@[simp] theorem State.releaseTag_recallQueue : (s.releaseTag g).recallQueue = s.recallQueue := rfl
@[simp] theorem State.releaseTag_recallCount : (s.releaseTag g).recallCount = s.recallCount := rfl
@[simp] theorem State.releaseTag_pins : (s.releaseTag g).pins = s.pins := rfl
@[simp] theorem State.releaseTag_drain : (s.releaseTag g).drain =
    { s.drain with waiting := false } := rfl
@[simp] theorem State.releaseTag_config : (s.releaseTag g).config = s.config := rfl
@[simp] theorem State.releaseTag_mode : (s.releaseTag g).mode = s.mode := rfl
@[simp] theorem State.releaseTag_notices : (s.releaseTag g).notices = s.notices := rfl
@[simp] theorem State.releaseTag_now : (s.releaseTag g).now = s.now := rfl
@[simp] theorem State.releaseTag_wireNear : (s.releaseTag g).wireNear = s.wireNear := rfl
@[simp] theorem State.releaseTag_wireRequest : (s.releaseTag g).wireRequest = s.wireRequest := rfl
@[simp] theorem State.releaseTag_wireAck : (s.releaseTag g).wireAck = s.wireAck := rfl
@[simp] theorem State.releaseTag_pending : (s.releaseTag g).pending = s.pending := rfl

end releaseTag

/-! ### A far request issued under a tag (R59, R66) -/

section issue

variable (s : State) (g : Tag) (k : TxnKind) (ws : List Waiter) (n : Option RecallRecord) (o : Origin) (r : FarRequest)

@[simp] theorem State.issue_nearLink : (s.issue g k ws n o r).nearLink = s.nearLink := rfl
@[simp] theorem State.issue_credits : (s.issue g k ws n o r).credits = s.credits := rfl
@[simp] theorem State.issue_ingress : (s.issue g k ws n o r).ingress = s.ingress := rfl
@[simp] theorem State.issue_egress : (s.issue g k ws n o r).egress = s.egress := rfl
@[simp] theorem State.issue_noticeInterval : (s.issue g k ws n o r).noticeInterval = s.noticeInterval := rfl
@[simp] theorem State.issue_watch : (s.issue g k ws n o r).watch = s.watch := rfl
@[simp] theorem State.issue_holds : (s.issue g k ws n o r).holds = s.holds := rfl
@[simp] theorem State.issue_captures : (s.issue g k ws n o r).captures = s.captures := rfl
@[simp] theorem State.issue_nextSeq : (s.issue g k ws n o r).nextSeq = s.nextSeq := rfl
@[simp] theorem State.issue_windows : (s.issue g k ws n o r).windows = s.windows := rfl
@[simp] theorem State.issue_dir : (s.issue g k ws n o r).dir = s.dir := rfl
@[simp] theorem State.issue_txns : (s.issue g k ws n o r).txns =
    upd s.txns g (.issued { kind := k, waiters := ws, noted := n, deadline := s.now + s.config.farTimeout, origin := o }) := rfl
@[simp] theorem State.issue_eb : (s.issue g k ws n o r).eb = s.eb := rfl
@[simp] theorem State.issue_farLink : (s.issue g k ws n o r).farLink = s.farLink := rfl
@[simp] theorem State.issue_reqCh : (s.issue g k ws n o r).reqCh =
    if s.farLink = .up then s.reqCh ++ [r] else s.reqCh := rfl
@[simp] theorem State.issue_ackCh : (s.issue g k ws n o r).ackCh = s.ackCh := rfl
@[simp] theorem State.issue_respCh : (s.issue g k ws n o r).respCh = s.respCh := rfl
@[simp] theorem State.issue_recallCh : (s.issue g k ws n o r).recallCh = s.recallCh := rfl
@[simp] theorem State.issue_recallQueue : (s.issue g k ws n o r).recallQueue = s.recallQueue := rfl
@[simp] theorem State.issue_recallCount : (s.issue g k ws n o r).recallCount = s.recallCount := rfl
@[simp] theorem State.issue_pins : (s.issue g k ws n o r).pins = s.pins := rfl
@[simp] theorem State.issue_drain : (s.issue g k ws n o r).drain = s.drain := rfl
@[simp] theorem State.issue_config : (s.issue g k ws n o r).config = s.config := rfl
@[simp] theorem State.issue_mode : (s.issue g k ws n o r).mode = s.mode := rfl
@[simp] theorem State.issue_notices : (s.issue g k ws n o r).notices = s.notices := rfl
@[simp] theorem State.issue_now : (s.issue g k ws n o r).now = s.now := rfl
@[simp] theorem State.issue_wireNear : (s.issue g k ws n o r).wireNear = s.wireNear := rfl
@[simp] theorem State.issue_wireRequest : (s.issue g k ws n o r).wireRequest = s.wireRequest := rfl
@[simp] theorem State.issue_wireAck : (s.issue g k ws n o r).wireAck = s.wireAck := rfl
@[simp] theorem State.issue_pending : (s.issue g k ws n o r).pending = s.pending := rfl

end issue

/-! ### An eviction buffer entry freed (R61, R145) -/

section releaseSlot

variable (s : State) (i : Fin 4)

@[simp] theorem State.releaseSlot_nearLink : (s.releaseSlot i).nearLink = s.nearLink := rfl
@[simp] theorem State.releaseSlot_credits : (s.releaseSlot i).credits = s.credits := rfl
@[simp] theorem State.releaseSlot_ingress : (s.releaseSlot i).ingress = s.ingress := rfl
@[simp] theorem State.releaseSlot_egress : (s.releaseSlot i).egress = s.egress := rfl
@[simp] theorem State.releaseSlot_noticeInterval : (s.releaseSlot i).noticeInterval = s.noticeInterval := rfl
@[simp] theorem State.releaseSlot_watch : (s.releaseSlot i).watch = s.watch := rfl
@[simp] theorem State.releaseSlot_holds : (s.releaseSlot i).holds = s.holds := rfl
@[simp] theorem State.releaseSlot_captures : (s.releaseSlot i).captures = s.captures := rfl
@[simp] theorem State.releaseSlot_nextSeq : (s.releaseSlot i).nextSeq = s.nextSeq := rfl
@[simp] theorem State.releaseSlot_windows : (s.releaseSlot i).windows = s.windows := rfl
@[simp] theorem State.releaseSlot_dir : (s.releaseSlot i).dir = s.dir := rfl
@[simp] theorem State.releaseSlot_txns : (s.releaseSlot i).txns = s.txns := rfl
@[simp] theorem State.releaseSlot_eb : (s.releaseSlot i).eb =
    upd s.eb i none := rfl
@[simp] theorem State.releaseSlot_farLink : (s.releaseSlot i).farLink = s.farLink := rfl
@[simp] theorem State.releaseSlot_reqCh : (s.releaseSlot i).reqCh = s.reqCh := rfl
@[simp] theorem State.releaseSlot_ackCh : (s.releaseSlot i).ackCh = s.ackCh := rfl
@[simp] theorem State.releaseSlot_respCh : (s.releaseSlot i).respCh = s.respCh := rfl
@[simp] theorem State.releaseSlot_recallCh : (s.releaseSlot i).recallCh = s.recallCh := rfl
@[simp] theorem State.releaseSlot_recallQueue : (s.releaseSlot i).recallQueue = s.recallQueue := rfl
@[simp] theorem State.releaseSlot_recallCount : (s.releaseSlot i).recallCount = s.recallCount := rfl
@[simp] theorem State.releaseSlot_pins : (s.releaseSlot i).pins = s.pins := rfl
@[simp] theorem State.releaseSlot_drain : (s.releaseSlot i).drain =
    { s.drain with waiting := false } := rfl
@[simp] theorem State.releaseSlot_config : (s.releaseSlot i).config = s.config := rfl
@[simp] theorem State.releaseSlot_mode : (s.releaseSlot i).mode = s.mode := rfl
@[simp] theorem State.releaseSlot_notices : (s.releaseSlot i).notices = s.notices := rfl
@[simp] theorem State.releaseSlot_now : (s.releaseSlot i).now = s.now := rfl
@[simp] theorem State.releaseSlot_wireNear : (s.releaseSlot i).wireNear = s.wireNear := rfl
@[simp] theorem State.releaseSlot_wireRequest : (s.releaseSlot i).wireRequest = s.wireRequest := rfl
@[simp] theorem State.releaseSlot_wireAck : (s.releaseSlot i).wireAck = s.wireAck := rfl
@[simp] theorem State.releaseSlot_pending : (s.releaseSlot i).pending = s.pending := rfl

end releaseSlot

/-! ### A pin record replaced or freed (R112) -/

section putPin

variable (s : State) (i : Fin 4) (v : Option Pin)

@[simp] theorem State.putPin_nearLink : (s.putPin i v).nearLink = s.nearLink := rfl
@[simp] theorem State.putPin_credits : (s.putPin i v).credits = s.credits := rfl
@[simp] theorem State.putPin_ingress : (s.putPin i v).ingress = s.ingress := rfl
@[simp] theorem State.putPin_egress : (s.putPin i v).egress = s.egress := rfl
@[simp] theorem State.putPin_noticeInterval : (s.putPin i v).noticeInterval = s.noticeInterval := rfl
@[simp] theorem State.putPin_watch : (s.putPin i v).watch = s.watch := rfl
@[simp] theorem State.putPin_holds : (s.putPin i v).holds = s.holds := rfl
@[simp] theorem State.putPin_captures : (s.putPin i v).captures = s.captures := rfl
@[simp] theorem State.putPin_nextSeq : (s.putPin i v).nextSeq = s.nextSeq := rfl
@[simp] theorem State.putPin_windows : (s.putPin i v).windows = s.windows := rfl
@[simp] theorem State.putPin_dir : (s.putPin i v).dir = s.dir := rfl
@[simp] theorem State.putPin_txns : (s.putPin i v).txns = s.txns := rfl
@[simp] theorem State.putPin_eb : (s.putPin i v).eb = s.eb := rfl
@[simp] theorem State.putPin_farLink : (s.putPin i v).farLink = s.farLink := rfl
@[simp] theorem State.putPin_reqCh : (s.putPin i v).reqCh = s.reqCh := rfl
@[simp] theorem State.putPin_ackCh : (s.putPin i v).ackCh = s.ackCh := rfl
@[simp] theorem State.putPin_respCh : (s.putPin i v).respCh = s.respCh := rfl
@[simp] theorem State.putPin_recallCh : (s.putPin i v).recallCh = s.recallCh := rfl
@[simp] theorem State.putPin_recallQueue : (s.putPin i v).recallQueue = s.recallQueue := rfl
@[simp] theorem State.putPin_recallCount : (s.putPin i v).recallCount = s.recallCount := rfl
@[simp] theorem State.putPin_pins : (s.putPin i v).pins =
    upd s.pins i v := rfl
@[simp] theorem State.putPin_drain : (s.putPin i v).drain = s.drain := rfl
@[simp] theorem State.putPin_config : (s.putPin i v).config = s.config := rfl
@[simp] theorem State.putPin_mode : (s.putPin i v).mode = s.mode := rfl
@[simp] theorem State.putPin_notices : (s.putPin i v).notices = s.notices := rfl
@[simp] theorem State.putPin_now : (s.putPin i v).now = s.now := rfl
@[simp] theorem State.putPin_wireNear : (s.putPin i v).wireNear = s.wireNear := rfl
@[simp] theorem State.putPin_wireRequest : (s.putPin i v).wireRequest = s.wireRequest := rfl
@[simp] theorem State.putPin_wireAck : (s.putPin i v).wireAck = s.wireAck := rfl
@[simp] theorem State.putPin_pending : (s.putPin i v).pending = s.pending := rfl

end putPin

/-! ### An occurrence raised (R163) -/

section raise

variable (s : State) (k : NoticeKind) (d : NoticeDetail)

@[simp] theorem State.raise_nearLink : (s.raise k d).nearLink = s.nearLink := rfl
@[simp] theorem State.raise_credits : (s.raise k d).credits = s.credits := rfl
@[simp] theorem State.raise_ingress : (s.raise k d).ingress = s.ingress := rfl
@[simp] theorem State.raise_egress : (s.raise k d).egress = s.egress := rfl
@[simp] theorem State.raise_noticeInterval : (s.raise k d).noticeInterval = s.noticeInterval := rfl
@[simp] theorem State.raise_watch : (s.raise k d).watch = s.watch := rfl
@[simp] theorem State.raise_holds : (s.raise k d).holds = s.holds := rfl
@[simp] theorem State.raise_captures : (s.raise k d).captures = s.captures := rfl
@[simp] theorem State.raise_nextSeq : (s.raise k d).nextSeq = s.nextSeq := rfl
@[simp] theorem State.raise_windows : (s.raise k d).windows = s.windows := rfl
@[simp] theorem State.raise_dir : (s.raise k d).dir = s.dir := rfl
@[simp] theorem State.raise_txns : (s.raise k d).txns = s.txns := rfl
@[simp] theorem State.raise_eb : (s.raise k d).eb = s.eb := rfl
@[simp] theorem State.raise_farLink : (s.raise k d).farLink = s.farLink := rfl
@[simp] theorem State.raise_reqCh : (s.raise k d).reqCh = s.reqCh := rfl
@[simp] theorem State.raise_ackCh : (s.raise k d).ackCh = s.ackCh := rfl
@[simp] theorem State.raise_respCh : (s.raise k d).respCh = s.respCh := rfl
@[simp] theorem State.raise_recallCh : (s.raise k d).recallCh = s.recallCh := rfl
@[simp] theorem State.raise_recallQueue : (s.raise k d).recallQueue = s.recallQueue := rfl
@[simp] theorem State.raise_recallCount : (s.raise k d).recallCount = s.recallCount := rfl
@[simp] theorem State.raise_pins : (s.raise k d).pins = s.pins := rfl
@[simp] theorem State.raise_drain : (s.raise k d).drain = s.drain := rfl
@[simp] theorem State.raise_config : (s.raise k d).config = s.config := rfl
@[simp] theorem State.raise_mode : (s.raise k d).mode = s.mode := rfl
@[simp] theorem State.raise_notices : (s.raise k d).notices =
    recordOccurrence s.config.noticeEnable k d s.notices := rfl
@[simp] theorem State.raise_now : (s.raise k d).now = s.now := rfl
@[simp] theorem State.raise_wireNear : (s.raise k d).wireNear = s.wireNear := rfl
@[simp] theorem State.raise_wireRequest : (s.raise k d).wireRequest = s.wireRequest := rfl
@[simp] theorem State.raise_wireAck : (s.raise k d).wireAck = s.wireAck := rfl
@[simp] theorem State.raise_pending : (s.raise k d).pending = s.pending := rfl

end raise

/-! ### The hit counts raised (R131) -/

section countHits

variable (s : State) (q : Request)

@[simp] theorem State.countHits_nearLink : (s.countHits q).nearLink = s.nearLink := rfl
@[simp] theorem State.countHits_credits : (s.countHits q).credits = s.credits := rfl
@[simp] theorem State.countHits_ingress : (s.countHits q).ingress = s.ingress := rfl
@[simp] theorem State.countHits_egress : (s.countHits q).egress = s.egress := rfl
@[simp] theorem State.countHits_noticeInterval : (s.countHits q).noticeInterval = s.noticeInterval := rfl
@[simp] theorem State.countHits_watch : (s.countHits q).watch =
    mapTable (fun e => if e.matches q then e.hit else e) s.watch := rfl
@[simp] theorem State.countHits_holds : (s.countHits q).holds = s.holds := rfl
@[simp] theorem State.countHits_captures : (s.countHits q).captures = s.captures := rfl
@[simp] theorem State.countHits_nextSeq : (s.countHits q).nextSeq = s.nextSeq := rfl
@[simp] theorem State.countHits_windows : (s.countHits q).windows = s.windows := rfl
@[simp] theorem State.countHits_dir : (s.countHits q).dir = s.dir := rfl
@[simp] theorem State.countHits_txns : (s.countHits q).txns = s.txns := rfl
@[simp] theorem State.countHits_eb : (s.countHits q).eb = s.eb := rfl
@[simp] theorem State.countHits_farLink : (s.countHits q).farLink = s.farLink := rfl
@[simp] theorem State.countHits_reqCh : (s.countHits q).reqCh = s.reqCh := rfl
@[simp] theorem State.countHits_ackCh : (s.countHits q).ackCh = s.ackCh := rfl
@[simp] theorem State.countHits_respCh : (s.countHits q).respCh = s.respCh := rfl
@[simp] theorem State.countHits_recallCh : (s.countHits q).recallCh = s.recallCh := rfl
@[simp] theorem State.countHits_recallQueue : (s.countHits q).recallQueue = s.recallQueue := rfl
@[simp] theorem State.countHits_recallCount : (s.countHits q).recallCount = s.recallCount := rfl
@[simp] theorem State.countHits_pins : (s.countHits q).pins = s.pins := rfl
@[simp] theorem State.countHits_drain : (s.countHits q).drain = s.drain := rfl
@[simp] theorem State.countHits_config : (s.countHits q).config = s.config := rfl
@[simp] theorem State.countHits_mode : (s.countHits q).mode = s.mode := rfl
@[simp] theorem State.countHits_notices : (s.countHits q).notices = s.notices := rfl
@[simp] theorem State.countHits_now : (s.countHits q).now = s.now := rfl
@[simp] theorem State.countHits_wireNear : (s.countHits q).wireNear = s.wireNear := rfl
@[simp] theorem State.countHits_wireRequest : (s.countHits q).wireRequest = s.wireRequest := rfl
@[simp] theorem State.countHits_wireAck : (s.countHits q).wireAck = s.wireAck := rfl
@[simp] theorem State.countHits_pending : (s.countHits q).pending = s.pending := rfl

end countHits

end Sys2Proof.Machine
end

