-- ==== Sys2Proof/Laws/Tables.lean ====
section
/-! SUPPORT. Tables and the directory: reading what was written, and the directory's one form (log 20). -/

namespace Sys2Proof.Machine

/-! ### Tables -/

/-- The written entry reads as written. -/
@[simp] theorem upd_same {α : Type} {n : Nat} (v : Vector α n) (i : Fin n) (x : α) : (upd v i x)[i] = x := by
  simp [upd]

/-- Every other entry reads as before. -/
theorem upd_other {α : Type} {n : Nat} (v : Vector α n) (i j : Fin n) (x : α) (h : i ≠ j) :
    (upd v i x)[j] = v[j] := by
  simp only [upd, Fin.getElem_fin]
  exact Vector.getElem_set_ne _ _ (fun e => h (Fin.ext e))

/-- What an entry reads as after a write. -/
theorem upd_get {α : Type} {n : Nat} (v : Vector α n) (i j : Fin n) (x : α) :
    (upd v i x)[j] = if i = j then x else v[j] := by
  split
  · next h => subst h; exact upd_same v i x
  · next h => exact upd_other v i j x h

/-- A second write of the same entry stands. -/
@[simp] theorem upd_upd {α : Type} {n : Nat} (v : Vector α n) (i : Fin n) (x y : α) :
    upd (upd v i x) i y = upd v i y := by
  simp [upd]

/-- Writing what an entry holds changes nothing. -/
@[simp] theorem upd_self {α : Type} {n : Nat} (v : Vector α n) (i : Fin n) : upd v i v[i] = v := by
  simp [upd]

/-- Two tables whose entries agree are one. -/
theorem table_ext {α : Type} {n : Nat} {u v : Vector α n} (h : ∀ i : Fin n, u[i] = v[i]) : u = v :=
  Vector.ext fun i hi => h ⟨i, hi⟩

/-- An entry of a table changed throughout. -/
@[simp] theorem mapTable_get {α β : Type} {n : Nat} (f : α → β) (v : Vector α n) (i : Fin n) :
    (mapTable f v)[i] = f v[i] := by
  simp [mapTable]

/-- An entry of a table of equal entries. -/
@[simp] theorem replicate_get {α : Type} {n : Nat} (x : α) (i : Fin n) : (Vector.replicate n x)[i] = x := by
  simp

/-- The lowest index: its entry satisfies the condition and no lower one does. -/
theorem lowest_eq_some {α : Type} {n : Nat} {v : Vector α n} {p : α → Bool} {i : Fin n} :
    lowest v p = some i ↔ p v[i] = true ∧ ∀ j < i, p v[j] = false := by
  unfold lowest
  rw [List.find?_eq_some_iff_getElem]
  simp only [List.length_finRange, List.getElem_finRange, Bool.not_eq_true', Fin.cast_mk]
  constructor
  · rintro ⟨hp, k, hk, e, hlt⟩
    subst e
    exact ⟨hp, fun j hj => hlt j.val hj⟩
  · rintro ⟨hp, hlt⟩
    exact ⟨hp, i.val, i.isLt, rfl, fun j hj => hlt ⟨j, _⟩ hj⟩

/-- There is no lowest index: no entry satisfies the condition. -/
theorem lowest_eq_none {α : Type} {n : Nat} {v : Vector α n} {p : α → Bool} :
    lowest v p = none ↔ ∀ i : Fin n, p v[i] = false := by
  simp [lowest]

/-- Some entry satisfies the condition. -/
theorem lowest_isSome {α : Type} {n : Nat} {v : Vector α n} {p : α → Bool} :
    (lowest v p).isSome = true ↔ ∃ i : Fin n, p v[i] = true := by
  simp [lowest, List.find?_isSome]

/-! ### The directory -/

/-- Every set number listed in the tail of a directory in its one form is above that of its head. -/
theorem dirWf_cons {e : Fin 1024 × DirSet} {d : List (Fin 1024 × DirSet)} :
    dirWf (e :: d) = true ↔ (∀ f ∈ d, e.1 < f.1) ∧ e.2 ≠ DirSet.reset ∧ dirWf d = true := by
  simp only [dirWf, List.pairwise_cons, List.all_cons, Bool.and_eq_true, decide_eq_true_eq]
  tauto

/-- A set that no entry lists reads as the reset set. -/
theorem readSet_of_not_listed {d : List (Fin 1024 × DirSet)} {i : Fin 1024} (h : ∀ e ∈ d, e.1 ≠ i) :
    readSet d i = DirSet.reset := by
  induction d with
  | nil => rfl
  | cons e t ih =>
    simp only [List.mem_cons, forall_eq_or_imp] at h
    simp only [readSet, if_neg h.1]
    exact ih h.2

/-- The written set reads as written, every other set as before. -/
theorem readSet_writeSet (d : List (Fin 1024 × DirSet)) (i j : Fin 1024) (v : DirSet) (h : dirWf d = true) :
    readSet (writeSet d i v) j = if i = j then v else readSet d j := by
  induction d with
  | nil =>
    simp only [writeSet]
    split <;> rename_i e
    · subst e; simp [readSet]
    · simp [readSet]
  | cons e t ih =>
    obtain ⟨k, u⟩ := e
    obtain ⟨hlt, hu, ht⟩ := dirWf_cons.1 h
    have hi : i ≤ k → ∀ f ∈ t, f.1 ≠ i := fun hk f hf => (lt_of_le_of_lt hk (hlt f hf)).ne'
    simp only [writeSet]
    split
    · next hik =>
      have hki : k ≠ i := hik.ne'
      split <;> rename_i e
      · subst e
        by_cases hij : i = j
        · subst hij
          simp only [readSet, if_neg hki, readSet_of_not_listed (hi hik.le), if_pos]
        · simp [hij]
      · simp only [readSet]
    · next hik =>
      split
      · next hki =>
        subst hki
        split <;> rename_i e
        · subst e
          by_cases hij : k = j
          · subst hij
            simp only [readSet_of_not_listed (hi le_rfl), if_pos]
          · simp only [readSet, if_neg hij]
        · by_cases hij : k = j <;> simp [readSet, hij]
      · next hki =>
        simp only [readSet]
        by_cases hkj : k = j
        · subst hkj; simp [Ne.symm hki]
        · simp only [if_neg hkj]; exact ih ht

/-- The written set reads as written. -/
theorem readSet_writeSet_same (d : List (Fin 1024 × DirSet)) (i : Fin 1024) (v : DirSet)
    (h : dirWf d = true) : readSet (writeSet d i v) i = v := by
  rw [readSet_writeSet d i i v h, if_pos rfl]

/-- Every other set reads as before. -/
theorem readSet_writeSet_other (d : List (Fin 1024 × DirSet)) (i j : Fin 1024) (v : DirSet)
    (h : dirWf d = true) (hij : i ≠ j) : readSet (writeSet d i v) j = readSet d j := by
  rw [readSet_writeSet d i j v h, if_neg hij]

/-- A write lists no set number but its own and those listed before. -/
theorem mem_writeSet {d : List (Fin 1024 × DirSet)} {i : Fin 1024} {v : DirSet} {e : Fin 1024 × DirSet}
    (h : e ∈ writeSet d i v) : e = (i, v) ∨ e ∈ d := by
  induction d with
  | nil => simp only [writeSet] at h; split at h <;> simp_all
  | cons f t ih =>
    obtain ⟨k, u⟩ := f
    simp only [writeSet] at h
    split at h
    · split at h
      · exact Or.inr h
      · simpa using h
    · split at h
      · split at h
        · exact Or.inr (List.mem_cons_of_mem _ h)
        · rcases List.mem_cons.1 h with h | h
          · exact Or.inl h
          · exact Or.inr (List.mem_cons_of_mem _ h)
      · rcases List.mem_cons.1 h with h | h
        · exact Or.inr (h ▸ List.mem_cons_self)
        · exact (ih h).imp id (List.mem_cons_of_mem _)

/-- A write keeps the directory's one form. -/
theorem dirWf_writeSet (d : List (Fin 1024 × DirSet)) (i : Fin 1024) (v : DirSet) (h : dirWf d = true) :
    dirWf (writeSet d i v) = true := by
  induction d with
  | nil =>
    simp only [writeSet]
    split
    · rfl
    · next hv => exact dirWf_cons.2 ⟨by simp, hv, rfl⟩
  | cons e t ih =>
    obtain ⟨k, u⟩ := e
    obtain ⟨hlt, hu, ht⟩ := dirWf_cons.1 h
    simp only [writeSet]
    split
    · next hik =>
      split
      · exact h
      · next hv =>
        refine dirWf_cons.2 ⟨?_, hv, h⟩
        intro f hf
        rcases List.mem_cons.1 hf with e | hf
        · rw [e]; exact hik
        · exact hik.trans (hlt f hf)
    · next hik =>
      split
      · next hki =>
        subst hki
        split
        · exact ht
        · next hv => exact dirWf_cons.2 ⟨hlt, hv, ht⟩
      · next hki =>
        refine dirWf_cons.2 ⟨?_, hu, ih ht⟩
        intro f hf
        rcases mem_writeSet hf with e | hf
        · rw [e]; exact lt_of_le_of_ne (not_lt.1 hik) hki
        · exact hlt f hf

/-- A change of every set keeps the directory's one form. -/
theorem dirWf_mapSets (f : DirSet → DirSet) (d : List (Fin 1024 × DirSet)) (h : dirWf d = true) :
    dirWf (mapSets f d) = true := by
  simp only [dirWf, Bool.and_eq_true, decide_eq_true_eq] at h ⊢
  refine ⟨?_, by simp [mapSets]⟩
  exact (List.Pairwise.map (fun e : Fin 1024 × DirSet => (e.1, f e.2)) (fun _ _ hab => hab) h.1).filter _

/-- After a change that leaves the reset set as it is, every set reads as changed. -/
theorem readSet_mapSets (f : DirSet → DirSet) (hf : f DirSet.reset = DirSet.reset)
    (d : List (Fin 1024 × DirSet)) (i : Fin 1024) (h : dirWf d = true) :
    readSet (mapSets f d) i = f (readSet d i) := by
  induction d with
  | nil => exact hf.symm
  | cons e t ih =>
    obtain ⟨k, u⟩ := e
    obtain ⟨hlt, hu, ht⟩ := dirWf_cons.1 h
    have ih := ih ht
    by_cases hr : f u = DirSet.reset
    · have e1 : mapSets f ((k, u) :: t) = mapSets f t := by simp [mapSets, hr]
      rw [e1, ih]
      by_cases hki : k = i
      · subst hki
        have hn : ∀ g ∈ t, g.1 ≠ k := fun g hg => (hlt g hg).ne'
        simp [readSet, readSet_of_not_listed hn, hr, hf]
      · simp [readSet, hki]
    · have e1 : mapSets f ((k, u) :: t) = (k, f u) :: mapSets f t := by simp [mapSets, hr]
      rw [e1]
      by_cases hki : k = i
      · subst hki; simp [readSet]
      · simp only [readSet, if_neg hki]; exact ih

/-- The directory after a cold reset has its one form. -/
theorem dirWf_reset : dirWf State.reset.dir = true := rfl

/-- A way is replaced, or moved to the front: the directory keeps its one form. -/
theorem dirWf_putWay (s : State) (l : Loc) (w : Way) (h : dirWf s.dir = true) :
    dirWf (s.putWay l w).dir = true := dirWf_writeSet _ _ _ h

/-- A way moves to the front: the directory keeps its one form. -/
theorem dirWf_touch (s : State) (l : Loc) (h : dirWf s.dir = true) : dirWf (s.touch l).dir = true :=
  dirWf_writeSet _ _ _ h

/-- The replaced way reads as replaced, every other way as before. -/
theorem wayAt_putWay (s : State) (l m : Loc) (w : Way) (h : dirWf s.dir = true) :
    (s.putWay l w).wayAt m = if l = m then w else s.wayAt m := by
  obtain ⟨a, b⟩ := l
  obtain ⟨c, e⟩ := m
  simp only [State.wayAt, State.putWay, readSet_writeSet _ _ _ _ h, Loc.mk.injEq]
  by_cases hac : a = c
  · subst hac
    simp only [if_pos, true_and]
    exact upd_get _ _ _ _
  · simp [hac]

/-- A move to the front changes no way. -/
@[simp] theorem wayAt_touch (s : State) (l m : Loc) (h : dirWf s.dir = true) :
    (s.touch l).wayAt m = s.wayAt m := by
  obtain ⟨a, b⟩ := l
  obtain ⟨c, e⟩ := m
  simp only [State.wayAt, State.touch, readSet_writeSet _ _ _ _ h]
  by_cases hac : a = c
  · subst hac; simp only [if_pos]
  · simp only [if_neg hac]

/-- A way moved to the front of a list that holds each way number once: it still does (R40). -/
theorem toFront_perm {w : Fin 4} {l : List (Fin 4)} (h : l.Perm [0, 1, 2, 3]) :
    (toFront w l).Perm [0, 1, 2, 3] := by
  have hn : l.Nodup := h.nodup_iff.2 (by decide)
  have hm : w ∈ l := h.mem_iff.2 (by revert w; decide)
  refine List.Perm.trans ?_ h
  have e : toFront w l = w :: l.erase w := by
    simp only [toFront, hn.erase_eq_filter w, List.cons.injEq, true_and]
    exact List.filter_congr fun v _ => by simp [bne, Bool.beq_eq_decide_eq]
  rw [e]
  exact (List.perm_cons_erase hm).symm

end Sys2Proof.Machine
end

