-- ==== Sys2Proof/Laws/Requests.lean ====
section
/-! SUPPORT. The request path: what a taken request meets, step by step (01, 02). -/

namespace Sys2Proof.Machine

open Sys2Proof.Safety

/-! ### Returning the credit and counting the hits change nothing that a check reads -/

section unchanged

variable (s : State) (p : Packet) (rest : List Packet) (q : Request)

@[simp] theorem credited_treatmentOf (a : Addr) : (credited s p rest).treatmentOf a = s.treatmentOf a := rfl
@[simp] theorem counted_treatmentOf (a : Addr) : (counted s p rest q).treatmentOf a = s.treatmentOf a := rfl
@[simp] theorem credited_exempt (v : Request) : (credited s p rest).exempt v = s.exempt v := rfl
@[simp] theorem counted_exempt (v : Request) : (counted s p rest q).exempt v = s.exempt v := rfl
@[simp] theorem credited_lookup (x : Addr) : (credited s p rest).lookup x = s.lookup x := rfl
@[simp] theorem counted_lookup (x : Addr) : (counted s p rest q).lookup x = s.lookup x := rfl
@[simp] theorem credited_wayAt (l : Loc) : (credited s p rest).wayAt l = s.wayAt l := rfl
@[simp] theorem counted_wayAt (l : Loc) : (counted s p rest q).wayAt l = s.wayAt l := rfl
@[simp] theorem credited_inEvictionBuffer (x : Addr) : (credited s p rest).inEvictionBuffer x = s.inEvictionBuffer x := rfl
@[simp] theorem counted_inEvictionBuffer (x : Addr) : (counted s p rest q).inEvictionBuffer x = s.inEvictionBuffer x := rfl
@[simp] theorem credited_writebackPending (x : Addr) : (credited s p rest).writebackPending x = s.writebackPending x := rfl
@[simp] theorem counted_writebackPending (x : Addr) : (counted s p rest q).writebackPending x = s.writebackPending x := rfl
@[simp] theorem credited_foreignPin (r : Requester) (x : Addr) : (credited s p rest).foreignPin r x = s.foreignPin r x := rfl
@[simp] theorem counted_foreignPin (r : Requester) (x : Addr) : (counted s p rest q).foreignPin r x = s.foreignPin r x := rfl
@[simp] theorem credited_ownPin (r : Requester) (x : Addr) : (credited s p rest).ownPin r x = s.ownPin r x := rfl
@[simp] theorem counted_ownPin (r : Requester) (x : Addr) : (counted s p rest q).ownPin r x = s.ownPin r x := rfl
@[simp] theorem credited_hasPin (r : Requester) : (credited s p rest).hasPin r = s.hasPin r := rfl
@[simp] theorem counted_hasPin (r : Requester) : (counted s p rest q).hasPin r = s.hasPin r := rfl
@[simp] theorem credited_linePinned (x : Addr) : (credited s p rest).linePinned x = s.linePinned x := rfl
@[simp] theorem counted_linePinned (x : Addr) : (counted s p rest q).linePinned x = s.linePinned x := rfl
@[simp] theorem credited_pinned (l : Loc) : (credited s p rest).pinned l = s.pinned l := rfl
@[simp] theorem counted_pinned (l : Loc) : (counted s p rest q).pinned l = s.pinned l := rfl
@[simp] theorem credited_activePinAt (l : Loc) : (credited s p rest).activePinAt l = s.activePinAt l := rfl
@[simp] theorem counted_activePinAt (l : Loc) : (counted s p rest q).activePinAt l = s.activePinAt l := rfl
@[simp] theorem credited_freePinRecord : (credited s p rest).freePinRecord = s.freePinRecord := rfl
@[simp] theorem counted_freePinRecord : (counted s p rest q).freePinRecord = s.freePinRecord := rfl
@[simp] theorem credited_freeTag : (credited s p rest).freeTag = s.freeTag := rfl
@[simp] theorem counted_freeTag : (counted s p rest q).freeTag = s.freeTag := rfl
@[simp] theorem credited_freeSlot : (credited s p rest).freeSlot = s.freeSlot := rfl
@[simp] theorem counted_freeSlot : (counted s p rest q).freeSlot = s.freeSlot := rfl
@[simp] theorem credited_freeHold : (credited s p rest).freeHold = s.freeHold := rfl
@[simp] theorem counted_freeHold : (counted s p rest q).freeHold = s.freeHold := rfl
@[simp] theorem credited_fetchOf (l : Loc) : (credited s p rest).fetchOf l = s.fetchOf l := rfl
@[simp] theorem counted_fetchOf (l : Loc) : (counted s p rest q).fetchOf l = s.fetchOf l := rfl
@[simp] theorem credited_victim (i : Fin 1024) : (credited s p rest).victim i = s.victim i := rfl
@[simp] theorem counted_victim (i : Fin 1024) : (counted s p rest q).victim i = s.victim i := rfl
@[simp] theorem credited_heldOnLine (r : Requester) (x : Addr) : (credited s p rest).heldOnLine r x = s.heldOnLine r x := rfl
@[simp] theorem counted_heldOnLine (r : Requester) (x : Addr) : (counted s p rest q).heldOnLine r x = s.heldOnLine r x := rfl
@[simp] theorem credited_countM : (credited s p rest).countM = s.countM := rfl
@[simp] theorem counted_countM : (counted s p rest q).countM = s.countM := rfl
@[simp] theorem credited_allWaiters : (credited s p rest).allWaiters = s.allWaiters := rfl
@[simp] theorem counted_allWaiters : (counted s p rest q).allWaiters = s.allWaiters := rfl
@[simp] theorem credited_unacknowledged : (credited s p rest).unacknowledged = s.unacknowledged := rfl
@[simp] theorem counted_unacknowledged : (counted s p rest q).unacknowledged = s.unacknowledged := rfl
@[simp] theorem credited_windows : (credited s p rest).windows = s.windows := rfl
@[simp] theorem counted_windows : (counted s p rest q).windows = s.windows := rfl
@[simp] theorem credited_dir : (credited s p rest).dir = s.dir := rfl
@[simp] theorem counted_dir : (counted s p rest q).dir = s.dir := rfl
@[simp] theorem credited_txns : (credited s p rest).txns = s.txns := rfl
@[simp] theorem counted_txns : (counted s p rest q).txns = s.txns := rfl
@[simp] theorem credited_eb : (credited s p rest).eb = s.eb := rfl
@[simp] theorem counted_eb : (counted s p rest q).eb = s.eb := rfl
@[simp] theorem credited_farLink : (credited s p rest).farLink = s.farLink := rfl
@[simp] theorem counted_farLink : (counted s p rest q).farLink = s.farLink := rfl
@[simp] theorem credited_reqCh : (credited s p rest).reqCh = s.reqCh := rfl
@[simp] theorem counted_reqCh : (counted s p rest q).reqCh = s.reqCh := rfl
@[simp] theorem credited_ackCh : (credited s p rest).ackCh = s.ackCh := rfl
@[simp] theorem counted_ackCh : (counted s p rest q).ackCh = s.ackCh := rfl
@[simp] theorem credited_pins : (credited s p rest).pins = s.pins := rfl
@[simp] theorem counted_pins : (counted s p rest q).pins = s.pins := rfl
@[simp] theorem credited_drain : (credited s p rest).drain = s.drain := rfl
@[simp] theorem counted_drain : (counted s p rest q).drain = s.drain := rfl
@[simp] theorem credited_config : (credited s p rest).config = s.config := rfl
@[simp] theorem counted_config : (counted s p rest q).config = s.config := rfl
@[simp] theorem credited_mode : (credited s p rest).mode = s.mode := rfl
@[simp] theorem counted_mode : (counted s p rest q).mode = s.mode := rfl
@[simp] theorem credited_notices : (credited s p rest).notices = s.notices := rfl
@[simp] theorem counted_notices : (counted s p rest q).notices = s.notices := rfl
@[simp] theorem credited_now : (credited s p rest).now = s.now := rfl
@[simp] theorem counted_now : (counted s p rest q).now = s.now := rfl
@[simp] theorem credited_nearLink : (credited s p rest).nearLink = s.nearLink := rfl
@[simp] theorem counted_nearLink : (counted s p rest q).nearLink = s.nearLink := rfl
@[simp] theorem credited_holds : (credited s p rest).holds = s.holds := rfl
@[simp] theorem counted_holds : (counted s p rest q).holds = s.holds := rfl
@[simp] theorem credited_captures : (credited s p rest).captures = s.captures := rfl
@[simp] theorem counted_captures : (counted s p rest q).captures = s.captures := rfl
@[simp] theorem credited_nextSeq : (credited s p rest).nextSeq = s.nextSeq := rfl
@[simp] theorem counted_nextSeq : (counted s p rest q).nextSeq = s.nextSeq := rfl
@[simp] theorem credited_matchesWith (v : Request) (a : WatchAction) :
    (credited s p rest).matchesWith v a = s.matchesWith v a := rfl
@[simp] theorem credited_matching (v : Request) : (credited s p rest).matching v = s.matching v := rfl

end unchanged

/-! ### Taking a request -/

/-- While the near link is UP, taking the oldest packet returns its credit (R6). -/
theorem takeHead_eq {s : State} (h : s.nearLink = .up) (p : Packet) (rest : List Packet) :
    s.takeHead p rest = credited s p rest := by
  simp [State.takeHead, State.emit, credited, h]

/-- While the near link is UP, an answer joins the egress (R15). -/
theorem answer_eq {s : State} (h : s.nearLink = .up) (q : Request) (st : RespStatus) (data : List Byte) :
    s.answer q st data = responding s q st data := by
  simp [State.answer, State.emit, responding, h]

/-- While the near link is UP, a reply joins the egress (R151). -/
theorem reply_eq {s : State} (h : s.nearLink = .up) (p : Packet) (st : MgmtStatus) (f : ReplyFields) :
    s.reply p st f = replying s p st f := by
  simp [State.reply, State.emit, replying, h]

/-- An occurrence is recorded by the enable set as it stands (R163). -/
theorem raise_eq (s : State) (k : NoticeKind) (d : NoticeDetail) : s.raise k d = noticed s k d := rfl

/-- A packet that passes the form check carries the code of its kind (R178). -/
theorem kindByte_of_parse {p : Packet} {q : Request} (h : parseRequest p = some q) :
    kindByte p = q.body.kind.code := by
  have e : ∀ n, (kindByte p).toNat = n → kindByte p = BitVec.ofNat 8 n := fun n h => by subst h; simp
  unfold parseRequest at h
  split at h
  · next body hb =>
    cases h
    simp only [bodyOf] at hb
    split at hb
    · next hk => split at hb <;> cases hb; exact e 1 hk
    · next hk =>
      split at hb
      · split at hb
        · split at hb <;> cases hb; exact e 2 hk
        · cases hb
      · cases hb
    · next hk => split at hb <;> cases hb; exact e 3 hk
    · next hk =>
      split at hb
      · split at hb <;> cases hb; exact e 4 hk
      · cases hb
    · next hk =>
      split at hb
      · split at hb <;> cases hb; exact e 5 hk
      · cases hb
    · cases hb
  · cases h

/-- The step of its kind takes the request and admits it whole (R9, R10). -/
theorem exec_request {s : State} {p : Packet} {rest : List Packet} {q : Request}
    (h : TakesRequest s p rest q) :
    exec (requestStep q.body.kind) s = .next ((credited s p rest).admitRequest q) := by
  obtain ⟨hn, hi, hp⟩ := h
  have hk := kindByte_of_parse hp
  cases hq : q.body.kind <;> rw [hq] at hk <;>
    simp [requestStep, exec, execRead, execWrite, execLockRead, execUnlockWrite, execAtomic,
      State.takeRequest, hi, hk, State.admitPacket, hp, takeHead_eq hn]

/-- A request of the kind passes steps 2 to 4 to the window check with its hits counted (R12, R13, R131). -/
theorem admit_reaches {s : State} {p : Packet} {rest : List Packet} {q : Request}
    (h : ReachesWindow s q) : (credited s p rest).admitRequest q = (counted s p rest q).windowCheck q := by
  obtain ⟨h1, h2, h3, h4⟩ := h
  simp [State.admitRequest, h1, State.watchCheck, h2, h3, State.admitFromMode, h4]
  rfl

/-- A request that passes steps 2 to 4: its step is the window check on the counted state. -/
theorem exec_window {s : State} {p : Packet} {rest : List Packet} {q : Request}
    (h : TakesRequest s p rest q) (hw : ReachesWindow s q) :
    exec (requestStep q.body.kind) s = .next ((counted s p rest q).windowCheck q) := by
  rw [exec_request h, admit_reaches hw]

/-- The window lets the request on to steps 6 and 7 without copy removal (R24). -/
theorem windowCheck_past {s : State} {q : Request} (h : ReachesDirectory s q) :
    s.windowCheck q = s.pastWindow q := by
  obtain ⟨h1, h2, h3, h4⟩ := h
  unfold State.windowCheck
  simp only [h1, h2, h4, if_false, Bool.not_true, Bool.false_eq_true]
  split
  · rfl
  · split
    · next hc =>
      simp only [Bool.and_eq_true, bne_iff_ne] at hc
      exact absurd (h3 hc.1) hc.2
    · rfl

/-- The window sends the request through copy removal (R24, R30). -/
theorem windowCheck_removal {s : State} {q : Request} {w : Waiter} (h : ReachesRemoval s q)
    (hw : q.uncachedWaiter = some w) : s.windowCheck q = s.removeCopy q w := by
  obtain ⟨h1, h2, h3⟩ := h
  have hx : s.exempt q = false := by
    unfold State.exempt
    cases hb : q.body <;> simp_all [Request.uncachedWaiter]
  have hl : q.body.isLockRead = false := by
    cases hb : q.body <;> simp_all [Request.uncachedWaiter, RequestBody.isLockRead]
  simp [State.windowCheck, hx, h1, h2, h3, hl, hw]

/-- The counted state meets what the state before it met. -/
theorem reachesDirectory_counted {s : State} {p : Packet} {rest : List Packet} {q v : Request} :
    ReachesDirectory (counted s p rest v) q ↔ ReachesDirectory s q := Iff.rfl

/-- The counted state meets what the state before it met. -/
theorem reachesRemoval_counted {s : State} {p : Packet} {rest : List Packet} {q v : Request} :
    ReachesRemoval (counted s p rest v) q ↔ ReachesRemoval s q := Iff.rfl

/-- A request that reaches steps 6 and 7. -/
theorem exec_past {s : State} {p : Packet} {rest : List Packet} {q : Request}
    (h : TakesRequest s p rest q) (hw : ReachesWindow s q) (hd : ReachesDirectory s q) :
    exec (requestStep q.body.kind) s = .next ((counted s p rest q).pastWindow q) := by
  rw [exec_window h hw, windowCheck_past (reachesDirectory_counted.2 hd)]

/-- A request that reaches copy removal. -/
theorem exec_removal {s : State} {p : Packet} {rest : List Packet} {q : Request} {w : Waiter}
    (h : TakesRequest s p rest q) (hw : ReachesWindow s q) (hd : ReachesRemoval s q)
    (hq : q.uncachedWaiter = some w) :
    exec (requestStep q.body.kind) s = .next ((counted s p rest q).removeCopy q w) := by
  rw [exec_window h hw, windowCheck_removal (reachesRemoval_counted.2 hd) hq]

end Sys2Proof.Machine
end

