-- ==== Sys2Proof/Laws/Management.lean ====
section
/-! SUPPORT. The management unit: which execution a taken command meets (R151, R178). -/

namespace Sys2Proof.Machine

open Sys2Proof.Safety

/-- A byte is the byte of its number. -/
theorem byte_of_toNat {b : Byte} {n : Nat} (h : b.toNat = n) : b = BitVec.ofNat 8 n := by subst h; simp

/-- The execution of a command, by its command code and, for READ_ENTRY and WRITE_ENTRY, its table. -/
def managementRun (p : Packet) : State → Packet → State :=
  match (commandByte p).toNat, (tableByte p).toNat with
  | 1, 2 => runReadWatch
  | 1, 3 => runReadConfig
  | 1, _ => runReadWindow
  | 2, 2 => runWriteWatch
  | 2, 3 => runWriteConfig
  | 2, _ => runWriteWindow
  | 3, _ => runReadStatus
  | 4, _ => runProbeLine
  | 5, _ => runListPins
  | 6, _ => runDrain
  | 8, _ => runDrainAbort
  | 9, _ => runPopCapture
  | 10, _ => runReleaseHold
  | 11, _ => runDiscardHold
  | 12, _ => runBreakPin
  | 13, _ => runTrafficReset
  | 14, _ => runReattach
  | _, _ => fun s _ => s

/-- A table code that is neither WATCH nor CONFIG is WINDOW or unknown (R178). -/
theorem table_window_or_unknown {b : Byte} (h2 : b.toNat ≠ 2) (h3 : b.toNat ≠ 3) :
    (b == 1 || b == 0 || decide (3 < b.toNat)) = true := by
  simp only [Bool.or_eq_true, beq_iff_eq, decide_eq_true_eq]
  by_cases h : 3 < b.toNat
  · exact Or.inr h
  · have : b.toNat = 0 ∨ b.toNat = 1 := by omega
    rcases this with h | h
    · exact Or.inl (Or.inr (byte_of_toNat h))
    · exact Or.inl (Or.inl (byte_of_toNat h))

/-- The step of its command takes a MGMT request, returns its credit and executes it (R151). -/
theorem exec_management {s : State} {p : Packet} {rest : List Packet} (hn : s.nearLink = .up)
    (hi : s.ingress = p :: rest) (hk : kindByte p = mgmtCode) :
    exec (managementStep p) s = .next ((credited s p rest).command p (managementRun p)) := by
  have e := takeHead_eq hn p rest
  have hm : ∀ run run' : State → Packet → State, commandWellFormed p = false →
      (credited s p rest).command p run = (credited s p rest).command p run' := by
    intro run run' h
    simp [State.command, h]
  unfold managementStep managementRun
  split
  case h_3 _ _ hc h2 h3 =>
    have ht := table_window_or_unknown h2 h3
    have hc := byte_of_toNat hc
    try rw [hc]
    simp only [exec, execReadEntryWindow, State.takeCommand, hi, hasTable, hasCommand, ht, hk, e, hc]
    simp
  case h_6 _ _ hc h2 h3 =>
    have ht := table_window_or_unknown h2 h3
    have hc := byte_of_toNat hc
    try rw [hc]
    simp only [exec, execWriteEntryWindow, State.takeCommand, hi, hasTable, hasCommand, ht, hk, e, hc]
    simp
  case h_18 =>
    have hu : unknownCommandCode p = true := by
      unfold unknownCommandCode commandFields
      split <;> simp_all
    have hw : commandWellFormed p = false := by
      simp only [unknownCommandCode, Option.isNone_iff_eq_none] at hu
      simp [commandWellFormed, hu]
    simp [exec, execUnknownCommand, hi, hk, hu, State.command, hw, e]
  all_goals
    rename_i hc
    (try rename_i hd; try replace hd := byte_of_toNat hd)
    try replace hc := byte_of_toNat hc
    simp_all [exec, execReadEntryWatch, execReadEntryConfig, execWriteEntryConfig,
      execWriteEntryWatch, execReadStatus, execProbeLine, execListPins, execDrain,
      execDrainAbort, execPopCapture, execReleaseHold, execDiscardHold, execBreakPin, execTrafficReset,
      execReattach, State.takeCommand, hasCommand, hasTable]

/-- A command from outside the manager set is answered DENIED; one of a manager is run (R151). -/
theorem command_of_manager {s : State} {p : Packet} {rest : List Packet} {run : State → Packet → State}
    (hw : commandWellFormed p = true) (hm : FromManager s p) :
    (credited s p rest).command p run = run (credited s p rest) p := by
  have h : s.config.managers.getLsbD (senderOf p).val = true := hm
  simp [State.command, hw, h]

/-- A manager's well-formed command: its step is its execution after the credit is returned. -/
theorem exec_command {s : State} {p : Packet} {rest : List Packet} {code : Byte}
    (h : TakesCommand s p rest code) (hm : FromManager s p) :
    exec (managementStep p) s = .next (managementRun p (credited s p rest) p) := by
  obtain ⟨hn, hi, hk, -, hw⟩ := h
  rw [exec_management hn hi hk, command_of_manager hw hm]

end Sys2Proof.Machine
end

