-- ==== Sys2Proof/Laws/Ops.lean ====
section
/-! SUPPORT. Each shared operation as the one record update that it is. -/

namespace Sys2Proof.Machine

open Sys2Proof.Safety

/-! ### What leaves the part -/

/-- A packet for the requester port is appended while the near link is UP (R15). -/
theorem emit_eq (s : State) (p : NearPacket) : s.emit p = { s with egress := egressAfter s [p] } := rfl

/-- A far request is appended while the far link is UP (R62). -/
theorem sendFar_eq (s : State) (r : FarRequest) : s.sendFar r = { s with reqCh := reqChAfter s [r] } := rfl

/-- An acknowledgement is appended while the far link is UP (R62). -/
theorem sendAck_eq (s : State) (id : Byte) (st : AckStatus) :
    s.sendAck id st = { s with ackCh := ackChAfter s [{ id := id, status := st }] } := rfl

/-- An unacknowledged recall is acknowledged and counted off (R92). -/
theorem ackRecall_eq (s : State) (id : Byte) (st : AckStatus) :
    s.ackRecall id st = { s with
      ackCh := ackChAfter s [{ id := id, status := st }], recallCount := s.recallCount - 1 } := rfl

/-- Nothing produced: the egress stands. -/
@[simp] theorem egressAfter_nil (s : State) : egressAfter s [] = s.egress := by simp [egressAfter]

/-- Nothing produced: the ack channel stands. -/
@[simp] theorem ackChAfter_nil (s : State) : ackChAfter s [] = s.ackCh := by simp [ackChAfter]

/-- Nothing produced: the request channel stands. -/
@[simp] theorem reqChAfter_nil (s : State) : reqChAfter s [] = s.reqCh := by simp [reqChAfter]

/-- While the near link is UP, what is produced is appended. -/
theorem egressAfter_up {s : State} (h : s.nearLink = .up) (l : List NearPacket) :
    egressAfter s l = s.egress ++ l := by simp [egressAfter, h]

/-- The egress after packets produced one list after the other. -/
theorem egressAfter_append {s t : State} {l m : List NearPacket} (hn : t.nearLink = s.nearLink)
    (he : t.egress = egressAfter s l) : egressAfter t m = egressAfter s (l ++ m) := by
  simp only [egressAfter, hn, he]
  split <;> simp

/-- The ack channel after acknowledgements produced one list after the other. -/
theorem ackChAfter_append {s t : State} {l m : List RecallAck} (hn : t.farLink = s.farLink)
    (he : t.ackCh = ackChAfter s l) : ackChAfter t m = ackChAfter s (l ++ m) := by
  simp only [ackChAfter, hn, he]
  split <;> simp

/-- The request channel after requests produced one list after the other. -/
theorem reqChAfter_append {s t : State} {l m : List FarRequest} (hn : t.farLink = s.farLink)
    (he : t.reqCh = reqChAfter s l) : reqChAfter t m = reqChAfter s (l ++ m) := by
  simp only [reqChAfter, hn, he]
  split <;> simp

/-! ### Waiters and pin records -/

/-- The waiter of a LOCK_READ frees its record, any other none (R116). -/
theorem pinsWithout_cons (pins : Vector (Option Pin) 4) (w : Waiter) (ws : List Waiter) :
    pinsWithout pins (w :: ws) = pinsWithout (pinsWithout pins [w]) ws := rfl

/-- A list without LOCK_READ waiters frees no record. -/
theorem pinsWithout_of_none {ws : List Waiter} (h : ∀ w ∈ ws, Waiter.pin? w = none)
    (pins : Vector (Option Pin) 4) : pinsWithout pins ws = pins := by
  induction ws generalizing pins with
  | nil => rfl
  | cons w ws ih =>
    simp only [List.mem_cons, forall_eq_or_imp] at h
    rw [pinsWithout_cons, ih h.2]
    simp [pinsWithout, h.1]

/-- A waiter's WAITING record, if it has one, is freed (R116). -/
theorem freeWaiterPin_eq (s : State) (w : Waiter) :
    s.freeWaiterPin w = { s with pins := pinsWithout s.pins [w] } := by
  obtain ⟨r, id, o, a⟩ := w
  cases a <;> rfl

/-- A waiter is answered (R3). -/
theorem answerWaiter_eq (s : State) (w : Waiter) (st : RespStatus) (data : List Byte) :
    s.answerWaiter w st data = { s with
      egress := egressAfter s [.response w.requester w.id w.access.kind.code st data] } := rfl

/-- A refused waiter is answered RETRY and its WAITING record freed (R42, R73, R114). -/
theorem refuse_eq (s : State) (w : Waiter) :
    s.refuse w = { s with
      pins := pinsWithout s.pins [w]
      egress := egressAfter s [.response w.requester w.id w.access.kind.code .retry []] } := by
  rw [State.refuse, freeWaiterPin_eq, answerWaiter_eq]
  rfl

/-- Every waiter is answered, in list order, and their WAITING records freed (R80, R84, R116). -/
theorem answerAll_eq (s : State) (ws : List Waiter) (st : RespStatus) :
    s.answerAll ws st = { s with
      pins := pinsWithout s.pins ws, egress := egressAfter s (waiterAnswers ws st) } := by
  induction ws generalizing s with
  | nil => simp [State.answerAll, waiterAnswers, pinsWithout]
  | cons w ws ih =>
    have e : s.answerAll (w :: ws) st = ((s.freeWaiterPin w).answerWaiter w st).answerAll ws st := rfl
    rw [e, ih, freeWaiterPin_eq, answerWaiter_eq]
    simp only [State.mk.injEq, and_true, true_and]
    refine ⟨?_, rfl⟩
    refine egressAfter_append (s := s) (l := [.response w.requester w.id w.access.kind.code st []])
      (m := waiterAnswers ws st) ?_ ?_ <;> rfl

/-- A LOCK_READ that waits records its way; any other waiter changes nothing (R114). -/
theorem recordWay_of_none {w : Waiter} (h : Waiter.pin? w = none) (s : State) (l : Loc) :
    s.recordWay w l = s := by
  unfold Waiter.pin? at h
  unfold State.recordWay
  cases hw : w.access <;> simp_all

/-! ### Transactions and the eviction buffer -/

/-- A far request is issued under a tag (R59, R66). -/
theorem issue_eq (s : State) (g : Tag) (k : TxnKind) (ws : List Waiter) (n : Option RecallRecord)
    (o : Origin) (r : FarRequest) :
    s.issue g k ws n o r = { s with
      txns := upd s.txns g (.issued { kind := k, waiters := ws, noted := n,
                                      deadline := s.now + s.config.farTimeout, origin := o })
      reqCh := reqChAfter s [r] } := rfl

/-- A modified line goes home through the eviction buffer (R61, R64). -/
theorem evict_eq (s : State) (l : Loc) (x : Addr) (data : LineData) (i : Fin 4) (g : Tag)
    (why : EvictionOrigin) (o : Origin) :
    s.evict l x data i g why o = { s with
      dir := (s.putWay l .i).dir
      eb := upd s.eb i (some { line := x, data := data, origin := why, tag := g })
      txns := upd s.txns g (issuedNow s (.writebackDrop x i) [] o)
      reqCh := reqChAfter s [.writeback g x .drop data] } := rfl

/-- A recall whose fetch has failed is acknowledged NOT_HELD (R101). -/
theorem dropNoted_eq (s : State) (r : Option RecallRecord) :
    s.dropNoted r = { s with
      ackCh := ackChAfter s (notHeldAcks r), recallCount := s.recallCount - r.toList.length } := by
  cases r
  · simp [State.dropNoted, notHeldAcks]
  · rfl

/-- Every recall of a list is acknowledged NOT_HELD, in order (R109). -/
theorem ackAll_eq (s : State) (rs : List RecallRecord) :
    s.ackAll rs = { s with
      ackCh := ackChAfter s (rs.map fun r => { id := r.id, status := .notHeld })
      recallCount := s.recallCount - rs.length } := by
  induction rs generalizing s with
  | nil => simp [State.ackAll]
  | cons r rs ih =>
    have e : s.ackAll (r :: rs) = (s.ackRecall r.id .notHeld).ackAll rs := rfl
    rw [e, ih, ackRecall_eq]
    simp only [State.mk.injEq, and_true, true_and, List.length_cons, List.map_cons]
    refine ⟨?_, by omega⟩
    refine ackChAfter_append (s := s) (l := [{ id := r.id, status := .notHeld }]) ?_ ?_ <;> rfl

/-! ### The directory -/

/-- A replaced way is a change of its one set (R35). -/
theorem setBecomes_putWay {s : State} (h : dirWf s.dir = true) (l : Loc) (w : Way) :
    SetBecomes s.dir (s.putWay l w).dir l.set (withWay s l w) :=
  ⟨readSet_writeSet_same _ _ _ h, fun _ hj => readSet_writeSet_other _ _ _ _ h (Ne.symm hj)⟩

/-- A way moved to the front is a change of its one set (R40). -/
theorem setBecomes_touch {s : State} (h : dirWf s.dir = true) (l : Loc) :
    SetBecomes s.dir (s.touch l).dir l.set
      { readSet s.dir l.set with lru := toFront l.way (readSet s.dir l.set).lru } :=
  ⟨readSet_writeSet_same _ _ _ h, fun _ hj => readSet_writeSet_other _ _ _ _ h (Ne.symm hj)⟩

/-- Two changes of one set are one. -/
theorem setBecomes_trans {d e f : List (Fin 1024 × DirSet)} {i : Fin 1024} {u v : DirSet}
    (h : SetBecomes d e i u) (k : SetBecomes e f i v) : SetBecomes d f i v :=
  ⟨k.1, fun j hj => (k.2 j hj).trans (h.2 j hj)⟩

/-- A way replaced and moved to the front (R51, R52). -/
theorem setBecomes_putWay_touch {s : State} (h : dirWf s.dir = true) (l : Loc) (w : Way) :
    SetBecomes s.dir ((s.putWay l w).touch l).dir l.set (withWayInFront s l w) := by
  have k := setBecomes_trans (setBecomes_putWay h l w) (setBecomes_touch (dirWf_putWay s l w h) l)
  simp only [State.putWay_dir, readSet_writeSet_same _ _ _ h] at k
  exact k

/-- A way moved to the front and replaced (R44, R45). -/
theorem setBecomes_touch_putWay {s : State} (h : dirWf s.dir = true) (l : Loc) (w : Way) :
    SetBecomes s.dir ((s.touch l).putWay l w).dir l.set (withWayInFront s l w) := by
  have k := setBecomes_trans (setBecomes_touch h l) (setBecomes_putWay (dirWf_touch s l h) l w)
  simp only [withWay, State.touch_dir, readSet_writeSet_same _ _ _ h] at k
  exact k

end Sys2Proof.Machine
end

