-- ==== Sys2Proof/Laws/Recalls.lean ====
section
/-! SUPPORT. The outcomes of a recall that is applied to its line (05), one lemma each. -/

namespace Sys2Proof.Machine

open Sys2Proof.Safety

/-- An absent line is acknowledged WB_IN_FLIGHT while on its way home, NOT_HELD otherwise (R94, R95). -/
theorem applyRecall_absent {s : State} {r : RecallRecord} (h : s.lookup r.line = none) :
    s.applyRecall r = s.ackRecall r.id
      (if s.inEvictionBuffer r.line || s.writebackPending r.line then .wbInFlight else .notHeld) := by
  unfold State.applyRecall
  simp only [h]
  split <;> rfl

/-- Under an ACTIVE pin the recall is deferred (R99). -/
theorem applyRecall_pinned {s : State} {r : RecallRecord} {l : Loc} {i : Fin 4} (h : s.lookup r.line = some l)
    (hp : s.activePinAt l = some i) : s.applyRecall r = s.deferRecall i r := by
  simp [State.applyRecall, h, hp]

/-- In FILL the recall is noted (R97). -/
theorem applyRecall_fill {s : State} {r : RecallRecord} {l : Loc} {x : Addr} (h : s.lookup r.line = some l)
    (hp : s.activePinAt l = none) (hw : s.wayAt l = .fill x) : s.applyRecall r = s.noteRecall l r := by
  simp [State.applyRecall, h, hp, hw]

/-- A copy that no ACTIVE pin keeps is taken or reduced (R95, R96, R98). -/
theorem applyRecall_copy {s : State} {r : RecallRecord} {l : Loc} {st : CopyState} {x : Addr}
    {data : LineData} (h : s.lookup r.line = some l) (hp : s.activePinAt l = none)
    (hw : s.wayAt l = .copy st x data) : s.applyRecall r = s.recallCopy l r st x data := by
  simp [State.applyRecall, h, hp, hw]

/-- How a copy in S, X, M or CLEANING is acknowledged (R95, R96). -/
def recallAck (pending : Bool) (st : CopyState) (data : LineData) : AckStatus :=
  match st with
  | .s => if pending then .wbInFlight else .clean
  | .m => .dirty data
  | .cleaning => .wbInFlight
  | _ => .clean

/-- A copy in S, X, M or CLEANING becomes S after a DOWNGRADE and I after a SURRENDER (R95, R96). -/
theorem recallCopy_stable {s : State} {l : Loc} {r : RecallRecord} {st : CopyState} {x : Addr}
    {data : LineData} (h : st ≠ .upgrade) :
    s.recallCopy l r st x data = { s with
      dir := (s.putWay l (afterRecall r.kind x data)).dir
      ackCh := ackChAfter s [{ id := r.id, status := recallAck (s.writebackPending x) st data }]
      recallCount := s.recallCount - 1 } := by
  cases st <;> first | exact absurd rfl h | rfl

/-- The recall is noted on the entry that names the way (R97). -/
theorem noteRecall_eq {s : State} {l : Loc} {r : RecallRecord} {g : Tag} {t : Txn}
    (h : s.fetchOf l = some (g, t)) :
    s.noteRecall l r = { s with txns := upd s.txns g (.issued { t with noted := some r }) } := by
  simp only [State.noteRecall, h]
  rfl

/-- The recall is deferred on the ACTIVE record (R99). -/
theorem deferRecall_eq {s : State} {i : Fin 4} {r : RecallRecord} {p : Pin} {l : Loc} {d : Nat}
    {o : Option RecallRecord} (h : s.pins[i] = some p) (ha : p.st = .active l d o) :
    s.deferRecall i r = { s with pins := upd s.pins i (some { p with st := .active l d (some r) }) } := by
  simp only [State.deferRecall, h, ha]
  rfl

/-- The step of its kind takes the recall at the head of the queue in OPERATING (R94). -/
theorem exec_recall {s : State} {r : RecallRecord} {rest : List RecallRecord} (hm : s.mode = .operating)
    (h : s.recallQueue = r :: rest) :
    exec (recallStep r.kind) s = .next (({ s with recallQueue := rest } : State).applyRecall r) := by
  cases hk : r.kind <;> simp [recallStep, exec, execDowngrade, execSurrender, State.takeRecall, h, hk, hm]

/-- In ISOLATED every recall is acknowledged NOT_HELD (R100). -/
theorem exec_recall_isolated {s : State} {r : RecallRecord} {rest : List RecallRecord}
    (hm : s.mode = .isolated) (h : s.recallQueue = r :: rest) :
    exec (recallStep r.kind) s = .next (({ s with recallQueue := rest } : State).ackRecall r.id .notHeld) := by
  cases hk : r.kind <;> simp [recallStep, exec, execDowngrade, execSurrender, State.takeRecall, h, hk, hm]

end Sys2Proof.Machine
end

