-- ==== Sys2Proof/Laws/Admission.lean ====
section
/-! SUPPORT. Admission at the window check, however the request comes there: from the ingress queue, captured or
not, or released from a hold slot (01, 02, 07). -/

namespace Sys2Proof.Machine

open Sys2Proof.Safety

/-! ### The window check leaves the near link as it is -/

section nearLink

variable (s : State) (w : Waiter) (q : Request) (loc : Loc) (line : Addr)

@[simp] theorem freeWaiterPin_nearLink : (s.freeWaiterPin w).nearLink = s.nearLink := by
  rw [freeWaiterPin_eq]

@[simp] theorem refuse_nearLink : (s.refuse w).nearLink = s.nearLink := by rw [refuse_eq]

@[simp] theorem recordWay_nearLink : (s.recordWay w loc).nearLink = s.nearLink := by
  unfold State.recordWay
  repeat' split
  all_goals rfl

@[simp] theorem joinList_nearLink : (s.joinList w loc).nearLink = s.nearLink := by
  unfold State.joinList
  repeat' split
  all_goals simp

@[simp] theorem issueUpgrade_nearLink (data : LineData) :
    (s.issueUpgrade w loc line data).nearLink = s.nearLink := by
  unfold State.issueUpgrade
  split <;> simp

@[simp] theorem perform_nearLink (data : LineData) : (s.perform w loc line data).nearLink = s.nearLink := by
  unfold State.perform State.activatePin
  split <;> simp

@[simp] theorem resident_nearLink : (s.resident w loc).nearLink = s.nearLink := by
  unfold State.resident
  repeat' split
  all_goals simp

@[simp] theorem evict_nearLink (data : LineData) (slot : Fin 4) (g : Tag) (why : EvictionOrigin) (o : Origin) :
    (s.evict loc line data slot g why o).nearLink = s.nearLink := rfl

@[simp] theorem allocate_nearLink (g : Tag) : (s.allocate w line loc g).nearLink = s.nearLink := by
  unfold State.allocate State.fetch
  split <;> simp

@[simp] theorem miss_nearLink : (s.miss w line).nearLink = s.nearLink := by
  unfold State.miss
  repeat' split
  all_goals try dsimp only
  all_goals try split
  all_goals simp

@[simp] theorem directory_nearLink : (s.directory w line).nearLink = s.nearLink := by
  unfold State.directory
  repeat' split
  all_goals simp

@[simp] theorem applyRecall_nearLink (r : RecallRecord) : (s.applyRecall r).nearLink = s.nearLink := by
  unfold State.applyRecall State.deferRecall State.noteRecall State.recallCopy State.markCopyLost
  repeat' split
  all_goals rfl

@[simp] theorem performUnlock_nearLink (i : Fin 4) (mask : List Bool) (bytes : List Byte) :
    (s.performUnlock q i mask bytes).nearLink = s.nearLink := by
  unfold State.performUnlock State.applyHeldRecall
  repeat' split
  all_goals simp

@[simp] theorem pastWindow_nearLink : (s.pastWindow q).nearLink = s.nearLink := by
  unfold State.pastWindow State.toDirectory State.lockStep State.unlockStep State.reservePin State.toDirectory
  repeat' split
  all_goals simp

@[simp] theorem removeCopy_nearLink : (s.removeCopy q w).nearLink = s.nearLink := by
  unfold State.removeCopy State.issueUncached
  repeat' split
  all_goals try dsimp only
  all_goals (repeat' split)
  all_goals rfl

@[simp] theorem windowCheck_nearLink : (s.windowCheck q).nearLink = s.nearLink := by
  unfold State.windowCheck
  repeat' split
  all_goals try dsimp only
  all_goals (repeat' split)
  all_goals first | rfl | simp

end nearLink

/-! ### The three ways to the window check -/

/-- A capture is a record at the tail, or CAPTURE_FULL (R133). -/
theorem captureRequest_eq (s : State) (q : Request) (matched : List (Fin 8)) (slot : Option (Fin 4)) :
    s.captureRequest q matched slot = captured s
      { sequence := s.nextSeq, requester := q.requester, id := q.id, kind := q.body.kind, addr := q.addr,
        len := q.body.len, matched := matched, heldSlot := slot } (captureLost q) := by
  unfold State.captureRequest captured
  by_cases h : s.captures.length < 16
  · rw [if_pos h, if_neg (by omega)]
  · rw [if_neg h, if_pos (by omega), raise_eq]
    rfl

/-- A captured request that no entry holds goes on to the mode check (R133, R135). -/
theorem admit_captured {s : State} {p : Packet} {rest : List Packet} {q : Request}
    (hl : s.heldOnLine q.requester (lineOf q.addr) = false) (hh : s.matchesWith q .hold = false)
    (hc : s.matchesWith q .capture = true) :
    (credited s p rest).admitRequest q =
      (captured (counted s p rest q) (captureOf s q none) (captureLost q)).admitFromMode q := by
  simp only [State.admitRequest, credited_heldOnLine, hl, State.watchCheck, credited_matchesWith, hh, hc,
    captureRequest_eq]
  rfl

/-- A capture changes neither the mode nor the near link. -/
@[simp] theorem captured_mode (s : State) (c : Capture) (d : NoticeDetail) :
    (captured s c d).mode = s.mode := by
  unfold captured
  split <;> rfl

/-- A capture changes neither the mode nor the near link. -/
@[simp] theorem captured_nearLink (s : State) (c : Capture) (d : NoticeDetail) :
    (captured s c d).nearLink = s.nearLink := by
  unfold captured
  split <;> rfl

/-- A request comes to the window check only while the near link is UP. -/
theorem comes_nearLink {q : Request} {c : Instr} {s u : State} {done : State → State}
    (h : ComesToWindow q c s u done) : u.nearLink = .up := by
  cases h with
  | fresh h w => exact h.1
  | captured h hl hh hc hm => rw [captured_nearLink]; exact h.1
  | released h hf hi hq hm => exact h.1

/-- A request comes to the window check only in OPERATING (R13). -/
theorem comes_mode {q : Request} {c : Instr} {s u : State} {done : State → State}
    (h : ComesToWindow q c s u done) : u.mode = .operating := by
  cases h with
  | fresh h w => exact w.2.2.2
  | captured h hl hh hc hm => rw [captured_mode]; exact hm
  | released h hf hi hq hm => exact hm

/-- However a request comes to the window check, its command is the window check and what follows the admission
(R9, R14, R135, R137). -/
theorem exec_comes {q : Request} {c : Instr} {s u : State} {done : State → State}
    (h : ComesToWindow q c s u done) : exec c s = .next (done (u.windowCheck q)) := by
  cases h with
  | fresh h w => exact exec_window h w
  | captured h hl hh hc hm =>
    rw [exec_request h, admit_captured hl hh hc, State.admitFromMode, captured_mode,
      show (counted s _ _ q).mode = .operating from hm]
    rfl
  | @released s p rest i h hf hi hq hm =>
    have hc : (commandByte p).toNat = 10 := by rw [h.2.2.2.1]; rfl
    have e := exec_command h hf
    simp only [managementStep, managementRun, hc] at e
    rw [e]
    have hx : index? 4 (slotByte p) = some i := by
      rw [hi]
      simp [index?, i.isLt]
    have hq' : (credited s p rest).holds[i] = some q := hq
    simp only [runReleaseHold, hx, hq', State.admitFromMode, show (credited s p rest).mode = .operating from hm]
    rw [reply_eq]
    · rfl
    · rw [windowCheck_nearLink]
      exact h.1

/-- A request that the window lets on to steps 6 and 7. -/
theorem exec_comes_past {q : Request} {c : Instr} {s u : State} {done : State → State}
    (h : ComesToWindow q c s u done) (hd : ReachesDirectory u q) :
    exec c s = .next (done (u.pastWindow q)) := by
  rw [exec_comes h, windowCheck_past hd]

/-- A request that the window sends through copy removal. -/
theorem exec_comes_removal {q : Request} {c : Instr} {s u : State} {done : State → State} {w : Waiter}
    (h : ComesToWindow q c s u done) (hd : ReachesRemoval u q) (hq : q.uncachedWaiter = some w) :
    exec c s = .next (done (u.removeCopy q w)) := by
  rw [exec_comes h, windowCheck_removal hd hq]

/-- A WRITE or ATOMIC of the requester waits in the list (R43). -/
theorem writeWaits_iff {r : Requester} {ws : List Waiter} : writeWaits r ws = true ↔ WaitsToWrite r ws := by
  simp only [writeWaits, WaitsToWrite, List.any_eq_true, Bool.and_eq_true, beq_iff_eq]
  refine exists_congr fun w => and_congr_right fun _ => and_congr_right fun _ => ?_
  cases w.access <;> simp

end Sys2Proof.Machine
end

