-- ==== Sys2Proof/Laws/Directory.lean ====
section
/-! SUPPORT. The outcomes of step 7 at the directory and of copy removal (02, 03), one lemma each. -/

namespace Sys2Proof.Machine

open Sys2Proof.Safety

/-! ### The conditions of R42 -/

/-- Conditions 1 and 2 of R42 refuse the request. -/
theorem directory_obstructed {s : State} {w : Waiter} {x : Addr}
    (h : s.inEvictionBuffer x = true ∨ s.foreignPin w.requester x = true) :
    s.directory w x = s.refuse w := by
  unfold State.directory
  rcases h with h | h
  · simp [h]
  · simp only [h, if_true]; split <;> rfl

/-- A resident line that no condition of R42 refuses. -/
theorem directory_resident {s : State} {w : Waiter} {x : Addr} {l : Loc}
    (he : s.inEvictionBuffer x = false) (hp : s.foreignPin w.requester x = false) (hl : s.lookup x = some l)
    (hb : s.writebackPending x = false ∨ (s.wayAt l).isCleanCopy = false ∨ w.access.isRead = true) :
    s.directory w x = s.resident w l := by
  unfold State.directory
  rcases hb with hb | hb | hb <;> simp [he, hp, hl, hb]

/-- A write-back pending line in S or CLEANING refuses all but READs (condition 4 of R42). -/
theorem directory_pending {s : State} {w : Waiter} {x : Addr} {l : Loc} (hl : s.lookup x = some l)
    (hb : s.writebackPending x = true) (hc : (s.wayAt l).isCleanCopy = true) (hr : w.access.isRead = false) :
    s.directory w x = s.refuse w := by
  unfold State.directory
  simp [hl, hb, hc, hr]

/-- An absent line whose write-back is pending refuses the request (condition 3 of R42). -/
theorem directory_gone {s : State} {w : Waiter} {x : Addr} (hl : s.lookup x = none)
    (hb : s.writebackPending x = true) : s.directory w x = s.refuse w := by
  unfold State.directory
  simp [hl, hb]

/-- An absent line is a miss (condition 5 of R42). -/
theorem directory_miss {s : State} {w : Waiter} {x : Addr} (he : s.inEvictionBuffer x = false)
    (hp : s.foreignPin w.requester x = false) (hl : s.lookup x = none) (hb : s.writebackPending x = false) :
    s.directory w x = s.miss w x := by
  unfold State.directory
  simp [he, hp, hl, hb]

/-! ### A resident line (R43 to R48) -/

/-- FILL: the request joins the list. -/
theorem resident_fill {s : State} {w : Waiter} {l : Loc} {x : Addr} (h : s.wayAt l = .fill x) :
    s.resident w l = s.joinList w l := by
  simp [State.resident, h]

/-- S, X, M and CLEANING serve a READ. -/
theorem resident_read {s : State} {w : Waiter} {l : Loc} {st : CopyState} {x : Addr} {data : LineData}
    (h : s.wayAt l = .copy st x data) (hr : w.access.isRead = true) (hs : st ≠ .upgrade) :
    s.resident w l = (s.touch l).perform w l x data := by
  cases st <;> simp_all [State.resident]

/-- UPGRADE serves a READ whose requester waits with no write (R43). -/
theorem resident_read_upgrade {s : State} {w : Waiter} {l : Loc} {x : Addr} {data : LineData}
    (h : s.wayAt l = .copy .upgrade x data) (hr : w.access.isRead = true)
    (hw : ∀ e, s.fetchOf l = some e → writeWaits w.requester e.2.waiters = false) :
    s.resident w l = (s.touch l).perform w l x data := by
  unfold State.resident
  simp only [h, hr]
  cases hf : s.fetchOf l with
  | none => rfl
  | some e => simp [hw e hf]

/-- X and M serve every kind. -/
theorem resident_exclusive {s : State} {w : Waiter} {l : Loc} {st : CopyState} {x : Addr} {data : LineData}
    (h : s.wayAt l = .copy st x data) (hs : st = .x ∨ st = .m) :
    s.resident w l = (s.touch l).perform w l x data := by
  rcases hs with rfl | rfl <;> cases hr : w.access.isRead <;> simp [State.resident, h, hr]

/-- A write to S issues an UPGRADE (R48). -/
theorem resident_shared {s : State} {w : Waiter} {l : Loc} {x : Addr} {data : LineData}
    (h : s.wayAt l = .copy .s x data) (hr : w.access.isRead = false) :
    s.resident w l = s.issueUpgrade w l x data := by
  simp [State.resident, h, hr]

/-- A write to UPGRADE joins the list (R47). -/
theorem resident_upgrade {s : State} {w : Waiter} {l : Loc} {x : Addr} {data : LineData}
    (h : s.wayAt l = .copy .upgrade x data) (hr : w.access.isRead = false) :
    s.resident w l = s.joinList w l := by
  simp [State.resident, h, hr]

/-- A write to CLEANING is refused (R44). -/
theorem resident_cleaning {s : State} {w : Waiter} {l : Loc} {x : Addr} {data : LineData}
    (h : s.wayAt l = .copy .cleaning x data) (hr : w.access.isRead = false) :
    s.resident w l = s.refuse w := by
  simp [State.resident, h, hr]

/-- The entry that names the way has room: the request joins the end of its list (R47). -/
theorem joinList_room {s : State} {w : Waiter} {l : Loc} {g : Tag} {t : Txn} (h : s.fetchOf l = some (g, t))
    (hl : t.waiters.length < 8) :
    s.joinList w l =
      ({ s with txns := upd s.txns g (.issued { t with waiters := t.waiters ++ [w] }) } : State).recordWay w l := by
  simp only [State.joinList, h, if_neg (Nat.not_le.2 hl)]
  rfl

/-- The list is full (R47). -/
theorem joinList_full {s : State} {w : Waiter} {l : Loc} {g : Tag} {t : Txn} (h : s.fetchOf l = some (g, t))
    (hl : 8 ≤ t.waiters.length) : s.joinList w l = s.refuse w := by
  simp only [State.joinList, h, if_pos hl]

/-! ### A miss (R49 to R51) -/

/-- A victim that is not M: its way is allocated under the lowest FREE tag. -/
theorem miss_clean {s : State} {w : Waiter} {x : Addr} {l : Loc} {g : Tag}
    (hv : s.victim (setIndex x) = some l) (hm : (s.wayAt l).isM = false) (hg : s.freeTag = some g) :
    s.miss w x = s.allocate w x l g := by
  simp only [State.miss, hv]
  split
  · next h => simp [h, Way.isM] at hm
  · simp [hg]

/-- An M victim goes home first, then its way is allocated under the next FREE tag. -/
theorem miss_modified {s : State} {w : Waiter} {x old : Addr} {data : LineData} {l : Loc} {g h : Tag}
    {slot : Fin 4} (hv : s.victim (setIndex x) = some l) (hm : s.wayAt l = .copy .m old data)
    (hs : s.freeSlot = some slot) (hg : s.freeTag = some g)
    (hh : (s.evict l old data slot g .victim .request).freeTag = some h) :
    s.miss w x = (s.evict l old data slot g .victim .request).allocate w x l h := by
  simp [State.miss, hv, hm, hs, hg, hh]

/-- No victim. -/
theorem miss_none {s : State} {w : Waiter} {x : Addr} (hv : s.victim (setIndex x) = none) :
    s.miss w x = s.refuse w := by
  simp [State.miss, hv]

/-- No FREE tag. -/
theorem miss_no_tag {s : State} {w : Waiter} {x : Addr} (hg : s.freeTag = none) :
    s.miss w x = s.refuse w := by
  unfold State.miss
  simp only [hg]
  split
  · rfl
  · split
    · split <;> simp_all
    · rfl

end Sys2Proof.Machine
end

