-- ==== Sys2Proof/Laws/Drains.lean ====
section
/-! SUPPORT. The drain engine's pieces, each as the one record update that it is (08). -/

namespace Sys2Proof.Machine

open Sys2Proof.Safety

/-- The pending DRAIN is replied to, where one is pending (R146, R149). -/
theorem replyDrain_eq (s : State) (st : MgmtStatus) :
    s.replyDrain st = { s with egress := egressAfter s (drainReplies s.drain st) } := by
  unfold State.replyDrain drainReplies
  cases s.drain.pendingReply with
  | none => simp
  | some v => rfl

/-- The drain completes with its reply (R146). -/
theorem completeDrain_eq (s : State) :
    s.completeDrain = { s with
      drain := { s.drain with st := .idle, waiting := false, aborted := false, pendingReply := none }
      egress := egressAfter s (drainReplies s.drain (if s.drain.aborted then .aborted else .ok)) } := by
  simp only [State.completeDrain, replyDrain_eq]

/-- A traffic reset or far link loss ends a running drain with its reply, and no other (R149). -/
theorem stopDrain_eq (s : State) (st : MgmtStatus) :
    s.stopDrain st = { s with
      drain := drainStopped s.drain, egress := egressAfter s (drainStopReplies s.drain st) } := by
  unfold State.stopDrain drainStopped drainStopReplies
  cases hd : s.drain.st <;> simp [replyDrain_eq]

/-- The scan ends: FINISHING with write-backs outstanding, else the drain completes (R142, R146). -/
theorem endScan_eq (s : State) :
    s.endScan = if 0 < s.drain.outstanding then { s with drain := { s.drain with st := .finishing } }
      else s.completeDrain := rfl

/-- The cursor advances past a visited way (R142, R146). -/
theorem advanceCursor_eq {s : State} (h : s.drain.cursorSet < 1024) : s.advanceCursor = scanned s := by
  have hw : s.drain.cursorWay.val < 3 ↔ s.drain.cursorWay ≠ 3 := by
    constructor
    · intro h e; rw [e] at h; exact absurd h (by decide)
    · intro hne
      have := s.drain.cursorWay.isLt
      have : s.drain.cursorWay.val ≠ 3 := fun e => hne (Fin.ext e)
      omega
  have hs : s.drain.cursorSet + 1 < 1024 ↔ s.drain.cursorSet ≠ 1023 := by omega
  unfold State.advanceCursor scanned
  simp only [hw, hs]
  split
  · rfl
  · split
    · rfl
    · simp only [State.endScan, completeDrain_eq]
      split <;> rfl

/-- The end of an entry as the drain record sees it: nothing for origin REQUEST; counted for origin DRAIN, and in
FINISHING the last report completes the drain with its reply (R87, R146). -/
theorem reportEnd_eq (s : State) (t : Txn) (written : Bool) :
    s.reportEnd t written = { s with
      drain := drainAfterEnd t written s.drain
      egress := egressAfter s (drainEndReplies t written s.drain) } := by
  unfold State.reportEnd drainAfterEnd drainEndReplies
  cases t.origin with
  | request => simp
  | drain =>
    simp only [reduceCtorEq, if_false, true_and, State.reportDrain]
    by_cases h : s.drain.st = .finishing ∧ s.drain.outstanding ≤ 1
    · have h' : s.drain.st = .finishing ∧ s.drain.outstanding - 1 = 0 := ⟨h.1, by omega⟩
      rw [if_pos h', if_pos h, if_pos h, completeDrain_eq]
      rfl
    · have h' : ¬ (s.drain.st = .finishing ∧ s.drain.outstanding - 1 = 0) := fun k => h ⟨k.1, by omega⟩
      rw [if_neg h', if_neg h, if_neg h]
      simp [drainCounted]

/-- The reply that ends a drain says nothing of whether the drain waits for resources. -/
theorem drainEndReplies_waiting (t : Txn) (written b : Bool) (d : Drain) :
    drainEndReplies t written { d with waiting := b } = drainEndReplies t written d := rfl

/-- A visit in SCANNING with waiting clear acts on the way at the cursor (R142). -/
theorem exec_drainVisit {s : State} {loc : Loc} (hs : s.drain.st = .scanning) (hw : s.drain.waiting = false)
    (h1 : s.drain.cursorSet = loc.set.val) (h2 : s.drain.cursorWay = loc.way) :
    exec .drainVisit s = .next (s.visitWay loc) := by
  obtain ⟨i, w⟩ := loc
  have hl : s.drain.cursorSet < 1024 := h1 ▸ i.isLt
  have e : (⟨s.drain.cursorSet, hl⟩ : Fin 1024) = i := Fin.ext h1
  simp only [exec, execDrainVisit, State.visit, hs, hw, and_self, if_true, dif_pos hl, e, h2]

end Sys2Proof.Machine
end

