-- ==== Sys2Proof/Laws/Formats.lean ====
section
/-! SUPPORT. The bytes of numbers and masks, and the fields of a run of bytes (R177). -/

namespace Sys2Proof.Machine

open Sys2Proof.Safety

/-! ### Numbers in bytes -/

/-- A number takes the bytes it is given. -/
@[simp] theorem leBytes_length (k n : Nat) : (leBytes k n).length = k := by
  induction k generalizing n <;> simp_all [leBytes]

/-- `k` zero bytes. -/
@[simp] theorem zeros_length (k : Nat) : (zeros k).length = k := by simp [zeros]

/-- The bytes of a number give the number back, where they hold it. -/
theorem leNat_leBytes (k n : Nat) : leNat (leBytes k n) = n % 256 ^ k := by
  induction k generalizing n with
  | zero => simp [leBytes, leNat, Nat.mod_one]
  | succ k ih =>
    rw [leBytes, leNat, ih, BitVec.toNat_ofNat, show 256 ^ (k + 1) = 256 * 256 ^ k by omega, Nat.mod_mul]

/-- Zero bytes hold 0. -/
theorem leNat_zeros (k : Nat) : leNat (zeros k) = 0 := by
  induction k with
  | zero => rfl
  | succ k ih => simpa [zeros, List.replicate_succ, leNat] using ih

/-! ### Fields -/

/-- A field behind the first part is a field of the second. -/
theorem fieldAt_append_right (a b : List Byte) (i n : Nat) : fieldAt (a ++ b) (a.length + i) n = fieldAt b i n := by
  simp [fieldAt, List.drop_append, List.drop_eq_nil_of_le]

/-- A field within the first part is a field of it. -/
theorem fieldAt_append_left {a : List Byte} (b : List Byte) {i n : Nat} (h : i + n ≤ a.length) :
    fieldAt (a ++ b) i n = fieldAt a i n := by
  simp only [fieldAt]
  rw [List.drop_append_of_le_length (by omega), List.take_append_of_le_length (by simp; omega)]

/-- A field of one byte is the byte. -/
theorem fieldAt_one (b : List Byte) (i : Nat) : fieldAt b i 1 = (byteAt b i).toNat := by
  induction b generalizing i with
  | nil => simp [fieldAt, leNat, byteAt]
  | cons x xs ih =>
    cases i with
    | zero => simp [fieldAt, leNat, byteAt]
    | succ i => simpa [fieldAt, byteAt] using ih i

/-- The bytes of a number as a field. -/
theorem fieldAt_leBytes (b : List Byte) (k n : Nat) : fieldAt (leBytes k n ++ b) 0 k = n % 256 ^ k := by
  rw [fieldAt_append_left b (by simp), ← leNat_leBytes k n]
  simp [fieldAt, List.take_of_length_le]

/-- A layout of a first part and the rest: the length and the fields of both. -/
theorem layout_append {a b : List Byte} {m n : Nat} {f : List (Nat × Nat × Nat)} (h : Layout a m f)
    (hf : ∀ x ∈ f, x.1 + x.2.1 ≤ a.length) (hb : b.length = n) : Layout (a ++ b) (m + n) f :=
  ⟨by simp [h.1, hb], fun x hx hv => (fieldAt_append_left b (hf x hx)).trans (h.2 x hx hv)⟩

/-! ### Masks -/

/-- A number of bits is the number of its first bit and of the others. -/
theorem bitsNat_testBit (l : List Bool) (i : Nat) : (bitsNat l).testBit i = (l[i]?).getD false := by
  induction l generalizing i with
  | nil => simp [bitsNat]
  | cons b l ih =>
    rw [bitsNat, Nat.add_comm]
    cases i with
    | zero => cases b <;> simp [Nat.testBit_zero]
    | succ i =>
      have h : (2 * bitsNat l + if b then 1 else 0) / 2 = bitsNat l := by split <;> omega
      rw [Nat.testBit_succ, h, ih]
      rfl

/-- Bit `i` of the bytes of a number is bit `i` modulo 8 of byte `i` / 8 (R177). -/
theorem leBytes_bit {k i : Nat} (n : Nat) (h : i < 8 * k) :
    (byteAt (leBytes k n) (i / 8)).getLsbD (i % 8) = n.testBit i := by
  induction k generalizing n i with
  | zero => omega
  | succ k ih =>
    by_cases hi : i < 8
    · rw [Nat.div_eq_of_lt hi, Nat.mod_eq_of_lt hi]
      simp only [leBytes, byteAt, List.getD_cons_zero, BitVec.getLsbD_ofNat, hi, decide_true, Bool.true_and]
    · obtain ⟨j, rfl⟩ : ∃ j, i = j + 8 := ⟨i - 8, by omega⟩
      rw [show (j + 8) / 8 = j / 8 + 1 by omega, Nat.add_mod_right]
      simp only [leBytes, byteAt, List.getD_cons_succ]
      have := ih (i := j) (n / 256) (by omega)
      rw [byteAt] at this
      rw [this, show (256 : Nat) = 2 ^ 8 by rfl, Nat.testBit_div_two_pow]

/-- Bit `i` of a mask is bit `i` modulo 8 of mask byte `i` / 8, whatever the spare bits hold (R177). -/
theorem maskBytes_bit {mask : List Bool} {i : Nat} {bit : Bool} (h : mask[i]? = some bit) :
    (byteAt (maskBytes mask) (i / 8)).getLsbD (i % 8) = bit := by
  have hi : i < mask.length := (List.getElem?_eq_some_iff.1 h).1
  rw [maskBytes, leBytes_bit _ (by simp only [maskSize]; omega), bitsNat_testBit, List.getElem?_append_left hi, h]
  rfl

end Sys2Proof.Machine
end

