-- ==== Sys2Proof/Laws/Links.lean ====
section
/-! SUPPORT. The pieces of the bulk events, each as the one record update that it is (10). -/

namespace Sys2Proof.Machine

open Sys2Proof.Safety

/-- The credits after each of these packets has left the queue (R6). -/
def creditsAfter (credits : Vector Nat 16) (ps : List Packet) : Vector Nat 16 :=
  ps.foldl (fun v p => upd v (senderOf p) (v[senderOf p] + 1)) credits

/-- Each packet returns one credit to its sender. -/
theorem creditsAfter_get (credits : Vector Nat 16) (ps : List Packet) (r : Requester) :
    (creditsAfter credits ps)[r] = credits[r] + ps.countP fun v => senderOf v == r := by
  induction ps generalizing credits with
  | nil => simp [creditsAfter]
  | cons p ps ih =>
    have e : creditsAfter credits (p :: ps) =
      creditsAfter (upd credits (senderOf p) (credits[senderOf p] + 1)) ps := rfl
    rw [e, ih, upd_get, List.countP_cons]
    by_cases h : senderOf p = r
    · subst h; simp; omega
    · simp [h]

/-- One request taken out of the ingress queue by a traffic reset: its CREDIT and its RESET answer (R17). -/
theorem answerReset_eq {s : State} (h : s.nearLink = .up) (p : Packet) :
    (s.takeHead p []).answerReset p = { s with
      ingress := []
      credits := upd s.credits (senderOf p) (s.credits[senderOf p] + 1)
      egress := s.egress ++ [.credit (senderOf p), resetAnswer p] } := by
  rw [takeHead_eq h]
  unfold State.answerReset resetAnswer
  split <;> simp [credited, State.answerPacket, State.emit, h]

/-- The ingress queue is emptied, oldest first, each request with its CREDIT and RESET answer (R172). -/
theorem resetIngress_eq {s : State} (h : s.nearLink = .up) :
    s.resetIngress = { s with
      ingress := []
      credits := creditsAfter s.credits s.ingress
      egress := s.egress ++ s.ingress.flatMap fun v => [.credit (senderOf v), resetAnswer v] } := by
  have key : ∀ (ps : List Packet) (t : State), t.nearLink = .up → t.ingress = [] →
      ps.foldl (fun s p => (s.takeHead p []).answerReset p) t = { t with
        credits := creditsAfter t.credits ps
        egress := t.egress ++ ps.flatMap fun v => [.credit (senderOf v), resetAnswer v] } := by
    intro ps
    induction ps with
    | nil => intro t _ _; simp [creditsAfter]
    | cons p ps ih =>
      intro t ht hi
      have hu : ((t.takeHead p []).answerReset p).nearLink = .up := by rw [answerReset_eq ht]; exact ht
      have hv : ((t.takeHead p []).answerReset p).ingress = [] := by rw [answerReset_eq ht]
      rw [List.foldl_cons, ih _ hu hv, answerReset_eq ht]
      simp [creditsAfter, hi]
  rw [State.resetIngress, key _ { s with ingress := [] } h rfl]

/-- Every held request is answered RESET and its slot freed (R139). -/
theorem resetHolds_eq (s : State) :
    s.resetHolds = { s with
      holds := Vector.replicate 4 none
      egress := egressAfter s (s.holds.toList.reduceOption.map
        fun q => .response q.requester q.id q.body.kind.code .reset []) } := by
  have key : ∀ (hs : List (Option Request)) (t : State),
      hs.foldl (fun s h => match h with
        | some q => s.answer q .reset
        | none => s) t = { t with
        egress := egressAfter t (hs.reduceOption.map
          fun q => .response q.requester q.id q.body.kind.code .reset []) } := by
    intro hs
    induction hs with
    | nil => intro t; simp [List.reduceOption]
    | cons v hs ih =>
      intro t
      cases v with
      | none => rw [List.foldl_cons, ih, List.reduceOption_cons_of_none]
      | some q =>
        rw [List.foldl_cons, ih, List.reduceOption_cons_of_some, List.map_cons]
        have e : egressAfter (t.answer q .reset) (hs.reduceOption.map
            fun q => .response q.requester q.id q.body.kind.code .reset []) =
          egressAfter t (.response q.requester q.id q.body.kind.code .reset [] ::
            hs.reduceOption.map fun q => .response q.requester q.id q.body.kind.code .reset []) :=
          egressAfter_append (s := t) (l := [.response q.requester q.id q.body.kind.code .reset []]) rfl rfl
        rw [e]
        rfl
  exact key s.holds.toList { s with holds := Vector.replicate 4 none }

end Sys2Proof.Machine
end

