-- ==== Sys2Proof/WellFormed.lean ====
section
/-! DEFINITION. Which commands the outside can send: every packet that arrives on the requester port is at
least 2 bytes long and carries its sender's ID (R178). Every other command is well formed. -/

namespace Sys2Proof

/-- R178: "every packet that arrives is at least 2 bytes long". -/
def Instr.wellFormed : Instr → Bool
  | .packetArrival p => decide (2 ≤ p.length)
  | .read | .write | .lockRead | .unlockWrite | .atomic | .unknownKindRequest => true
  | .responseArrival _ => true
  | .grantSData | .grantXData | .grantX | .wbDone | .ucData | .ucDone | .atomicResult | .fail => true
  | .unknownResponse | .shortResponse => true
  | .transactionExpiry _ => true
  | .recallArrival _ => true
  | .downgrade | .surrender => true
  | .pinExpiry _ => true
  | .drainVisit => true
  | .readEntryWindow | .readEntryWatch | .readEntryConfig => true
  | .writeEntryWindow | .writeEntryWatch | .writeEntryConfig => true
  | .readStatus | .probeLine | .listPins | .drain | .drainAbort | .popCapture => true
  | .releaseHold | .discardHold | .breakPin | .trafficReset | .reattach => true
  | .noticeTake | .noticeIntervalEnd | .egressDeparture | .farPacketDeparture _ => true
  | .nearLinkDown | .nearLinkUp | .farLinkDown | .farLinkUp | .coldReset | .unknownCommand => true

end Sys2Proof
end

