-- ==== Sys2Proof/Laws/PerInstr.lean ====
section
/-! SUPPORT. One lemma per command: which commands are well formed (R178). -/

namespace Sys2Proof.Laws.WellFormedSound

open Sys2Proof

/-- A command is well formed exactly when, if it is the arrival of a packet, the packet has the 2 bytes that
carry its kind and its sender (R178). -/
def Statement (i : Instr) : Prop := i.wellFormed = true ↔ ∀ p, i = .packetArrival p → 2 ≤ p.length

/-- Only a packet of two bytes or more arrives. -/
theorem packetArrival (p : Packet) : Statement (.packetArrival p) := by
  simp only [Statement, Instr.wellFormed, decide_eq_true_eq, Instr.packetArrival.injEq]
  exact ⟨fun h _ e => e ▸ h, fun h => h p rfl⟩

/-- A command that is no packet's arrival is always well formed. -/
theorem of_other {i : Instr} (hw : i.wellFormed = true) (hn : ∀ p, i ≠ .packetArrival p) : Statement i :=
  ⟨fun _ p e => absurd e (hn p), fun _ => hw⟩

theorem read : Statement .read := of_other rfl (by rintro p ⟨⟩)
theorem write : Statement .write := of_other rfl (by rintro p ⟨⟩)
theorem lockRead : Statement .lockRead := of_other rfl (by rintro p ⟨⟩)
theorem unlockWrite : Statement .unlockWrite := of_other rfl (by rintro p ⟨⟩)
theorem atomic : Statement .atomic := of_other rfl (by rintro p ⟨⟩)
theorem unknownKindRequest : Statement .unknownKindRequest := of_other rfl (by rintro p ⟨⟩)
theorem responseArrival (p : Packet) : Statement (.responseArrival p) := of_other rfl (by rintro p ⟨⟩)
theorem grantSData : Statement .grantSData := of_other rfl (by rintro p ⟨⟩)
theorem grantXData : Statement .grantXData := of_other rfl (by rintro p ⟨⟩)
theorem grantX : Statement .grantX := of_other rfl (by rintro p ⟨⟩)
theorem wbDone : Statement .wbDone := of_other rfl (by rintro p ⟨⟩)
theorem ucData : Statement .ucData := of_other rfl (by rintro p ⟨⟩)
theorem ucDone : Statement .ucDone := of_other rfl (by rintro p ⟨⟩)
theorem atomicResult : Statement .atomicResult := of_other rfl (by rintro p ⟨⟩)
theorem fail : Statement .fail := of_other rfl (by rintro p ⟨⟩)
theorem unknownResponse : Statement .unknownResponse := of_other rfl (by rintro p ⟨⟩)
theorem shortResponse : Statement .shortResponse := of_other rfl (by rintro p ⟨⟩)
theorem transactionExpiry (tag : Tag) : Statement (.transactionExpiry tag) := of_other rfl (by rintro p ⟨⟩)
theorem recallArrival (p : Packet) : Statement (.recallArrival p) := of_other rfl (by rintro p ⟨⟩)
theorem downgrade : Statement .downgrade := of_other rfl (by rintro p ⟨⟩)
theorem surrender : Statement .surrender := of_other rfl (by rintro p ⟨⟩)
theorem pinExpiry (record : Fin 4) : Statement (.pinExpiry record) := of_other rfl (by rintro p ⟨⟩)
theorem drainVisit : Statement .drainVisit := of_other rfl (by rintro p ⟨⟩)
theorem readEntryWindow : Statement .readEntryWindow := of_other rfl (by rintro p ⟨⟩)
theorem readEntryWatch : Statement .readEntryWatch := of_other rfl (by rintro p ⟨⟩)
theorem readEntryConfig : Statement .readEntryConfig := of_other rfl (by rintro p ⟨⟩)
theorem writeEntryWindow : Statement .writeEntryWindow := of_other rfl (by rintro p ⟨⟩)
theorem writeEntryWatch : Statement .writeEntryWatch := of_other rfl (by rintro p ⟨⟩)
theorem writeEntryConfig : Statement .writeEntryConfig := of_other rfl (by rintro p ⟨⟩)
theorem readStatus : Statement .readStatus := of_other rfl (by rintro p ⟨⟩)
theorem probeLine : Statement .probeLine := of_other rfl (by rintro p ⟨⟩)
theorem listPins : Statement .listPins := of_other rfl (by rintro p ⟨⟩)
theorem drain : Statement .drain := of_other rfl (by rintro p ⟨⟩)
theorem drainAbort : Statement .drainAbort := of_other rfl (by rintro p ⟨⟩)
theorem popCapture : Statement .popCapture := of_other rfl (by rintro p ⟨⟩)
theorem releaseHold : Statement .releaseHold := of_other rfl (by rintro p ⟨⟩)
theorem discardHold : Statement .discardHold := of_other rfl (by rintro p ⟨⟩)
theorem breakPin : Statement .breakPin := of_other rfl (by rintro p ⟨⟩)
theorem trafficReset : Statement .trafficReset := of_other rfl (by rintro p ⟨⟩)
theorem reattach : Statement .reattach := of_other rfl (by rintro p ⟨⟩)
theorem noticeTake : Statement .noticeTake := of_other rfl (by rintro p ⟨⟩)
theorem noticeIntervalEnd : Statement .noticeIntervalEnd := of_other rfl (by rintro p ⟨⟩)
theorem egressDeparture : Statement .egressDeparture := of_other rfl (by rintro p ⟨⟩)
theorem farPacketDeparture (channel : DepartingChannel) : Statement (.farPacketDeparture channel) := of_other rfl (by rintro p ⟨⟩)
theorem nearLinkDown : Statement .nearLinkDown := of_other rfl (by rintro p ⟨⟩)
theorem nearLinkUp : Statement .nearLinkUp := of_other rfl (by rintro p ⟨⟩)
theorem farLinkDown : Statement .farLinkDown := of_other rfl (by rintro p ⟨⟩)
theorem farLinkUp : Statement .farLinkUp := of_other rfl (by rintro p ⟨⟩)
theorem coldReset : Statement .coldReset := of_other rfl (by rintro p ⟨⟩)
theorem unknownCommand : Statement .unknownCommand := of_other rfl (by rintro p ⟨⟩)

end Sys2Proof.Laws.WellFormedSound
end

