-- ==== Sys2Proof/Laws/Responses.lean ====
section
/-! SUPPORT. Far responses: how one is taken, and the walk of a grant (04). -/

namespace Sys2Proof.Machine

open Sys2Proof.Safety

/-! ### Taking a response (R67, R68) -/

/-- What a response of this kind does to an ISSUED entry that it fits. -/
def responseApply (p : Packet) : State → Tag → Txn → List Byte → Option State :=
  match (respKindByte p).toNat with
  | 1 => applyGrantSData
  | 2 => applyGrantXData
  | 3 => applyGrantX
  | 4 => applyWbDone
  | 5 => applyUcData
  | 6 => applyUcDone
  | 7 => applyAtomicResult
  | 8 => applyFail
  | _ => fun _ _ _ _ => none

/-- The step of its kind takes the oldest response (R62, R67). -/
theorem exec_response {s : State} {p : Packet} {rest : List Packet} (h : s.respCh = p :: rest)
    (hl : 4 ≤ p.length) :
    exec (responseStep p) s = .next ((responseTaken s rest).respond p (responseApply p)) := by
  unfold responseStep responseApply
  split
  case h_9 _ h1 h2 h3 h4 h5 h6 h7 h8 =>
    have hu : unknownResponseKind p = true := by
      simp only [unknownResponseKind, Bool.and_eq_true, decide_eq_true_eq, Bool.or_eq_true, beq_iff_eq]
      refine ⟨hl, ?_⟩
      by_cases h0 : (respKindByte p).toNat = 0
      · exact Or.inl (byte_of_toNat h0)
      · exact Or.inr (by simp only [imp_false] at h1 h2 h3 h4 h5 h6 h7 h8; omega)
    simp [exec, execUnknownResponse, State.takeResponse, h, hu]
    rfl
  all_goals
    rename_i hc
    replace hc := byte_of_toNat hc
    simp [exec, execGrantSData, execGrantXData, execGrantX, execWbDone, execUcData, execUcDone,
      execAtomicResult, execFail, State.takeResponse, h, hasResponseKind, hl, hc]
    rfl

/-- The tag that a tag byte names (R180). -/
theorem tagOf_byteOf (g : Tag) : tagOf (byteOf g.val) = some g := by
  have h : (byteOf g.val).toNat = g.val := by
    simp only [byteOf, BitVec.toNat_ofNat]
    omega
  simp [tagOf, h]

/-- A response to an ISSUED entry that it fits is applied (R67, condition 4). -/
theorem respond_issued {s : State} {p : Packet} {g : Tag} {t : Txn} {u : State}
    {f : State → Tag → Txn → List Byte → Option State} (hg : respTagByte p = byteOf g.val)
    (ht : s.txns[g] = .issued t) (hf : f s g t (respPayload p) = some u) : s.respond p f = u := by
  simp only [State.respond, hg, tagOf_byteOf, ht, hf]

/-- A response that its ISSUED entry does not accept is discarded with FAR_PROTOCOL (R67, condition 3). -/
theorem respond_unfit {s : State} {p : Packet} {g : Tag} {t : Txn}
    {f : State → Tag → Txn → List Byte → Option State} (hg : respTagByte p = byteOf g.val)
    (ht : s.txns[g] = .issued t) (hf : f s g t (respPayload p) = none) :
    s.respond p f = s.raiseFarProtocolTag (respTagByte p) := by
  simp only [State.respond, hg, tagOf_byteOf, ht, hf]

/-- The step of a taken response that its entry accepts. -/
theorem exec_fitting {s : State} {p : Packet} {rest : List Packet} {code : Byte} {g : Tag} {t : Txn}
    {u : State} (h : TakesResponse s p rest code g t)
    (hf : responseApply p (responseTaken s rest) g t (respPayload p) = some u) :
    exec (responseStep p) s = .next u := by
  obtain ⟨hr, hl, -, hg, ht⟩ := h
  exact (exec_response hr hl).trans
    (congrArg _ (respond_issued (s := responseTaken s rest) hg ht hf))

/-- No payload always fits a kind that carries none (R68). -/
theorem surplusFits_nil (k : TxnKind) (code : Byte) : surplusFits k code [] = true := by cases k <;> rfl

/-- A FAIL to a FAR_ATOMIC fits with the 8 bytes of its row (R68). -/
theorem surplusFits_farAtomic (a : Addr) {payload : List Byte} (h : payload.length = 8) :
    surplusFits (.farAtomic a) 8 payload = true := by
  simp [surplusFits, h]

/-- Surplus bytes are ignored against a fetch, an upgrade or a UC_READ (R68, R177). -/
theorem surplusFits_ignored {k : TxnKind} (h : ignoresSurplus k = true) (code : Byte) (payload : List Byte) :
    surplusFits k code payload = true := by
  cases k <;> simp_all [ignoresSurplus, surplusFits]

/-- The payload of a packet of 4 bytes is empty. -/
theorem respPayload_nil {p : Packet} (h : p.length = 4) : respPayload p = [] := by
  simp [respPayload, h]

/-- The payload's length. -/
theorem respPayload_length (p : Packet) : (respPayload p).length = p.length - 4 := by
  simp [respPayload]

/-! ### The walk (R69 to R75) -/

/-- The install of granted data (R52). -/
theorem install_eq (s : State) (l : Loc) (st : CopyState) (x : Addr) (data : LineData) :
    s.install l st x data = { s with dir := (s.install l st x data).dir } := rfl

/-- The install is a change of its one set (R52). -/
theorem setBecomes_install {s : State} (h : dirWf s.dir = true) (l : Loc) (st : CopyState) (x : Addr)
    (data : LineData) :
    SetBecomes s.dir (s.install l st x data).dir l.set (withWayInFront s l (.copy st x data)) :=
  setBecomes_putWay_touch h l _

/-- The installed way holds the granted line. -/
theorem wayAt_install {s : State} (h : dirWf s.dir = true) (l : Loc) (st : CopyState) (x : Addr)
    (data : LineData) : (s.install l st x data).wayAt l = .copy st x data := by
  rw [State.install, wayAt_touch _ _ _ (dirWf_putWay _ _ _ h), wayAt_putWay _ _ _ _ h, if_pos rfl]

/-- A walk on an empty list ends at once. -/
@[simp] theorem walk_nil (l : Loc) (o : Option Requester) (s : State) : State.walk l [] o s = (s, []) := rfl

/-- A walk serves the head of the list, or stops at it. -/
theorem walk_cons (l : Loc) (w : Waiter) (ws : List Waiter) (o : Option Requester) (s : State) :
    State.walk l (w :: ws) o s = match s.walkOne l o w with
      | some (t, o') => State.walk l ws o' t
      | none => (s, w :: ws) := rfl

/-- Behind an activated pin, a waiter of another requester is answered RETRY (R73). -/
theorem walkedBehind_other {owner : Requester} {w : Waiter} (h : w.requester ≠ owner) (data : LineData)
    (ws : List Waiter) : walkedBehind owner data (w :: ws) =
      ((walkedBehind owner data ws).1, (walkedBehind owner data ws).2.1,
        .response w.requester w.id w.access.kind.code .retry [] :: (walkedBehind owner data ws).2.2) := by
  simp [walkedBehind, waiterAnswers, h]

/-- Behind an activated pin whose owner waits no more, everyone is answered RETRY and the line stays (R73). -/
theorem walkedBehind_others {owner : Requester} {ws : List Waiter} (h : ∀ w ∈ ws, w.requester ≠ owner)
    (data : LineData) : walkedBehind owner data ws = (data, false, waiterAnswers ws .retry) := by
  induction ws with
  | nil => rfl
  | cons w ws ih =>
    rw [walkedBehind_other (h w List.mem_cons_self), ih fun v hv => h v (List.mem_cons_of_mem _ hv)]
    rfl

end Sys2Proof.Machine
end

