-- ==== Sys2Proof/Laws/Time.lean ====
section
/-! SUPPORT. Commands taken one after the other. -/

namespace Sys2Proof.Machine

open Sys2Proof.Safety

/-- One run of commands, and then another. -/
theorem follows_append {l m : List Instr} {s t u : State} (h : Follows l s t) (h' : Follows m t u) :
    Follows (l ++ m) s u := by
  induction l generalizing s with
  | nil => cases h; exact h'
  | cons c l ih =>
    obtain ⟨v, hv, h⟩ := h
    exact ⟨v, hv, ih h⟩

/-- A run of commands of one name, each of which always completes with `f`, is the fold of `f`. -/
theorem follows_map {α : Type} {c : α → Instr} {f : State → α → State} (h : ∀ a s, exec (c a) s = .next (f s a))
    (l : List α) (s : State) : Follows (l.map c) s (l.foldl f s) := by
  induction l generalizing s with
  | nil => rfl
  | cons a l ih => exact ⟨f s a, h a s, ih _⟩

end Sys2Proof.Machine
end

