-- ==== Sys2Proof/Tests/Slice0.lean ====
section
/-! SUPPORT. Tests: the smoke test of WellFormed, worked examples of spec/, and, for every statement with
hypotheses, a state and operands that meet them together. -/

namespace Sys2Proof.Tests

open Sys2Proof.Machine Sys2Proof.Safety

/-! ### Building small states -/

/-- A request packet (R178). -/
def packet (kind sender id len : Nat) (addr : Addr) (op flag bits : Nat) (payload : List Byte) : Packet :=
  [byteOf kind, byteOf sender, byteOf id, byteOf len] ++ addrBytes addr
    ++ [byteOf op, byteOf flag, byteOf bits, 0, 0, 0] ++ payload

/-- A management command of requester 0, the manager after a cold reset. -/
def command (code : Nat) (payload : List Byte) : Packet := packet 6 0 9 0 0 code 0 0 payload

/-- A far response (R180). -/
def response (code tag : Nat) (payload : List Byte) : Packet := [byteOf code, byteOf tag, 0, 0] ++ payload

/-- A recall (R180). -/
def recallPacket (code id : Nat) (line : Addr) : Packet := [byteOf code, byteOf id] ++ addrBytes line ++ [0, 0]

/-- A line's data whose first quantity is 0xFFFF_FFFF_FFFF_FFFE. -/
def data : LineData := lineDataOf [254, 255, 255, 255, 255, 255, 255, 255]

/-- The line of the tests, in set 1, and its way. -/
def line : Addr := 0x1000040
def loc : Loc := { set := 1, way := 0 }

/-- A window that gives every requester both rights. -/
def window (base : Addr) (exponent : Nat) (policy : Policy) : WindowEntry :=
  { valid := true, base := base, exponent := exponent, policy := policy, atomicMode := .inCache,
    readMask := 0xFFFF, writeMask := 0xFFFF }

/-- An OPERATING part with windows WB, RC, UC, DENY, and WB without rights; nothing else held. -/
def up : State :=
  { State.reset with
    nearLink := .up, farLink := .up, mode := .operating
    credits := Vector.replicate 16 3
    windows := upd (upd (upd (upd (upd State.reset.windows 0 (window 0x1000000 24 .wb)) 1
      (window 0x2000000 24 .rc)) 2 (window 0x3000000 24 .uc)) 3 (window 0x4000000 24 .deny)) 31
      { window 0x5000000 24 .wb with readMask := 0, writeMask := 0 } }

/-- Set 1 holds this way in way 0. -/
def holding (w : Way) : State :=
  { up with dir := [(1, { ways := upd DirSet.reset.ways 0 w, lru := [1, 0, 2, 3] })] }

/-- Set 1 holds these four ways. -/
def full (a b c d : Way) : State :=
  { up with dir := [(1, { ways := ⟨⟨[a, b, c, d]⟩, rfl⟩, lru := [1, 0, 2, 3] })] }

/-- The oldest ingress packet is this one. -/
def asking (s : State) (p : Packet) : State := { s with ingress := [p] }

/-- The oldest response is this one. -/
def answered (s : State) (p : Packet) : State := { s with respCh := [p] }

/-- The entry of tag 5 is ISSUED so. -/
def issued (s : State) (t : Txn) : State := { s with txns := upd s.txns 5 (.issued t) }

/-- Every tag but the listed ones is ORPHANED. -/
def busyBut (s : State) (free : List Tag) : State :=
  { s with txns := ⟨⟨(List.finRange 32).map fun g => if g ∈ free then .free else .orphaned⟩, rfl⟩ }

/-- Requester 2's waiter. -/
def waiter (a : Access) : Waiter := { requester := 2, id := 7, offset := 8, access := a }

/-- An entry of origin REQUEST. -/
def txn (k : TxnKind) (ws : List Waiter) : Txn :=
  { kind := k, waiters := ws, noted := none, deadline := 4096, origin := .request }

/-- An entry of origin DRAIN. -/
def drainTxn (k : TxnKind) : Txn := { txn k [] with origin := .drain }

/-- A drain under way, its reply pending. -/
def draining (s : State) (d : Drain) : State := { s with drain := { d with pendingReply := some (0, 3) } }

/-- Requester 2's pin record. -/
def pin (st : PinState) : Pin := { owner := 2, line := line, st := st }

/-- The first pin record is this one. -/
def pinned (s : State) (p : Pin) : State := { s with pins := upd s.pins 0 (some p) }

/-- A recall of the line. -/
def ofLine (k : RecallKind) : RecallRecord := { id := 1, line := line, kind := k }

/-- The recall queue holds this one. -/
def recalled (s : State) (k : RecallKind) : State := { s with recallQueue := [ofLine k], recallCount := 1 }

/-- One watch entry over the line, for every kind and requester. -/
def watched (s : State) (a : WatchAction) : State :=
  let e : WatchEntry :=
    { enable := true, base := line, exponent := 6, kinds := 15, mask := 0xFFFF, action := a, hits := 0 }
  { s with watch := upd s.watch 7 e }

/-- A capture record. -/
def capture (n : Nat) : Capture :=
  { sequence := BitVec.ofNat 16 n, requester := 1, id := 2, kind := .read, addr := line, len := 1,
    matched := [7], heldSlot := none }

/-- Requests of requester 2: at the last 8 bytes of the line, or at an address. -/
def pRead : Packet := packet 1 2 7 8 0x1000078 0 0 0 []
def qRead : Request := { requester := 2, id := 7, addr := 0x1000078, body := .read 8 }
def pWrite (a : Addr) : Packet := packet 2 2 7 2 a 0 0 2 [2, 10, 11]
def qWrite (a : Addr) : Request :=
  { requester := 2, id := 7, addr := a, body := .write 2 [false, true] [10, 11] }
def pLock : Packet := packet 3 2 7 64 line 0 0 0 []
def qLock : Request := { requester := 2, id := 7, addr := line, body := .lockRead 64 }
def pUnlock (bits : Nat) : Packet := packet 4 2 7 1 0x100007F 0 0 1 [byteOf bits, 10]
def qUnlock (b : Bool) : Request :=
  { requester := 2, id := 7, addr := 0x100007F, body := .unlockWrite 1 [b] [10] }
def pAdd (a : Addr) : Packet := packet 5 2 7 0 a 1 0 0 (leBytes 8 3)
def qAdd (a : Addr) : Request := { requester := 2, id := 7, addr := a, body := .atomic (.add 3) }

/-- The state in which the request, alone in the ingress queue and uncaptured, meets the window check. -/
def past (s : State) (p : Packet) (q : Request) : State := counted (asking s p) p [] q

/-- The request comes to the window check. -/
def Comes (s : State) (p : Packet) (q : Request) : Prop :=
  TakesRequest (asking s p) p [] q ∧ ReachesWindow (asking s p) q

/-- Such a request comes to the window check as the statements say it. -/
theorem Comes.toWindow {s : State} {p : Packet} {q : Request} (h : Comes s p q) :
    ComesToWindow q (requestStep q.body.kind) (asking s p) (past s p q) id := .fresh h.1 h.2

/-- The request comes unobstructed to the directory. -/
def Reaches (s : State) (p : Packet) (q : Request) : Prop :=
  Comes s p q ∧ ReachesDirectory (past s p q) q ∧ Unobstructed (past s p q) q ∧ dirWf (past s p q).dir = true

/-- The request comes to copy removal. -/
def Removes (s : State) (p : Packet) (q : Request) (w : Waiter) : Prop :=
  Comes s p q ∧ ReachesRemoval (past s p q) q ∧ q.uncachedWaiter = some w ∧ dirWf (past s p q).dir = true

/-- A manager's command is taken. -/
def Commands (s : State) (p : Packet) (code : Byte) : Prop := TakesCommand s p [] code ∧ FromManager s p

/-! ### WellFormed -/

/-- R178: a packet of one byte cannot arrive. -/
theorem test_wellFormed_refuses_short_packet : (Instr.packetArrival [1]).wellFormed = false := by decide

/-- R178: a packet of two bytes can. -/
theorem test_wellFormed_accepts_two_bytes : (Instr.packetArrival [1, 0]).wellFormed = true := by decide

/-! ### Worked examples of spec/ -/

/-- 02, "deciding entries": the table of the example. -/
def deciding : State :=
  { up with windows := upd (upd (upd (upd (upd State.reset.windows 0 (window 0x10000000 16 .uc)) 1
      (window 0x10000000 28 .wb)) 3 { window 0x12340000 12 .deny with valid := false }) 5
      (window 0 38 .rc)) 7 (window 0x10004000 12 .deny) }

/-- 02, "deciding entries": the five addresses. -/
theorem test_deciding_entries :
    ([0x10008040, 0x10004100, 0x12340010, 0x20000000, 0x4000000000].map fun a =>
      (deciding.treatmentOf a).policy) = [.uc, .uc, .wb, .rc, .deny] := by decide

/-- 03, 3.9, steps 2 and 3: the victims of set 17. -/
theorem test_victims :
    let before : State := { up with dir := [(17,
      { ways := ⟨⟨[.copy .m 0x10440 data, .copy .s 0x20440 data, .copy .m 0x30440 data, .i]⟩, rfl⟩
        lru := [0, 2, 3, 1] })] }
    let after : State := { up with dir := [(17,
      { ways := ⟨⟨[.copy .m 0x10440 data, .copy .s 0x20440 data, .copy .m 0x30440 data, .fill 0x40440]⟩, rfl⟩
        lru := [3, 0, 2, 1] })] }
    before.victim 17 = some { set := 17, way := 3 } ∧ after.victim 17 = some { set := 17, way := 1 } ∧
      setIndex 0x10440 = 17 ∧ toFront 0 [2, 0, 3, 1] = [0, 2, 3, 1] := by decide

/-- 06, "three atomics on one word". -/
theorem test_three_atomics :
    (AtomicOp.add 3).apply 0xFFFFFFFFFFFFFFFE = 1 ∧ (AtomicOp.cas 9 0).apply 1 = 1 ∧
      (AtomicOp.cas 9 1).apply 1 = 9 ∧ quantityAt data 0 = 0xFFFFFFFFFFFFFFFE := by decide

/-- 07, 7.6, events 1 to 5: which of the three entries match. -/
theorem test_watch_matches :
    let e0 : WatchEntry := { enable := true, base := 0x500000, exponent := 12, kinds := 15, mask := 0xFFFF,
                             action := .count, hits := 0 }
    let e2 : WatchEntry := { enable := true, base := 0x500100, exponent := 6, kinds := 10, mask := 0xFFFF,
                             action := .capture, hits := 0 }
    let e5 : WatchEntry := { enable := true, base := 0x500108, exponent := 3, kinds := 2, mask := 0x200,
                             action := .hold, hits := 0 }
    let asks (r : Requester) (a : Addr) (b : RequestBody) : List Bool :=
      [e0, e2, e5].map fun e => e.matches { requester := r, id := 0, addr := a, body := b }
    asks 4 0x500100 (.read 16) = [true, false, false] ∧
      asks 4 0x500104 (.write 4 [true] [0]) = [true, true, false] ∧
      asks 9 0x500108 (.write 8 [true] [0]) = [true, true, true] ∧
      asks 6 0x500110 (.atomic (.add 0)) = [true, true, false] := by decide

/-- 09, "coalescing": the notice set at t + 4. -/
theorem test_notices_coalesce :
    ((recordOccurrence 0x5F .hold {} (recordOccurrence 0x5F .farTimeout { tag := some 12 }
      (recordOccurrence 0x5F .farFail { tag := some 9 }
        (recordOccurrence 0x5F .farTimeout { tag := some 7 } [])))).map
      fun n => (n.kind, n.detail.tag, n.count)) =
        [(.farTimeout, some 7, 2), (.farFail, some 9, 1)] := by decide

/-- 11, "one READ_STATUS reply": the 16 bytes. -/
theorem test_status_bytes :
    StatusRecord.bytes
      { mode := .operating, farLink := .up, issued := 32, orphaned := 0, evictions := 0, recalls := 0,
        pinsWaiting := 0, pinsActive := 1, holds := 0, captures := 3, drainState := .finishing, cursorSet := 5,
        cursorWay := 3, pendingKinds := [.farTimeout] } =
      [3, 32, 0, 0, 0, 0, 1, 0, 3, 2, 5, 0, 3, 2, 0, 0] := by decide

/-- R178: a WRITE packet, written out byte by byte, is read as the request it carries. -/
theorem test_write_packet :
    parseRequest [2, 2, 7, 2, 0x7E, 0, 0, 1, 0, 0, 0, 0, 2, 0, 0, 0, 2, 10, 11] =
      some { requester := 2, id := 7, addr := 0x100007E, body := .write 2 [false, true] [10, 11] } := by decide

/-- R180: a WRITEBACK's header; a FAR_ATOMIC CAS's 16 operand bytes. -/
theorem test_far_bytes :
    (FarRequest.writeback 5 line .keep data).bytes.take 16 =
        [4, 5, 1, 0, 0x40, 0, 0, 1, 0, 0, 0, 0, 0, 0, 0, 0] ∧
      (FarRequest.farAtomic 5 line (.cas 9 1)).bytes =
        [7, 5, 131, 0, 0x40, 0, 0, 1, 0, 0, 0, 0, 0, 0, 0, 0, 9, 0, 0, 0, 0, 0, 0, 0, 1, 0, 0, 0, 0, 0, 0, 0] := by
  decide

/-- 12, the row "1030, LIST_PINS" of the example under R184: the reply packet. -/
theorem test_list_pins_bytes :
    (let v : RecallRecord := { id := 90, line := 0x00441C80, kind := .downgrade }
     let element : PinElement :=
       { index := 0, owner := 7, line := 0x00441C80, active := true, loc := some { set := 114, way := 0 },
         remaining := 34, deferred := some v }
     (NearPacket.mgmtReply 0 9 5 .ok (.pins [element])).bytes) =
      [130, 0, 9, 5, 0, 0, 21, 0, 1, 0, 7, 2, 3, 0x80, 0x1C, 0x44, 0, 0, 0, 114, 0, 0, 34, 0, 90, 1, 0, 0, 0] := by
  decide

/-- R179, R164 and R182: a FAR_PROTOCOL notice of the recall channel: bits 0 and 2 of byte 14 of its detail. -/
theorem test_notice_bytes :
    (let detail : NoticeDetail := { recallId := some 91, addr := some 0x00441C80 }
     (NearPacket.notice 15 { kind := .farProtocol, detail := detail, count := 2 }).bytes) =
      [132, 15, 0, 1, 2, 0, 0, 0, 0x80, 0x1C, 0x44, 0, 0, 0, 0, 91, 0, 0, 0, 0, 0, 0, 5, 0] := by decide

/-! ### Witnesses: the machine and its laws -/

/-- A far fetch under way: one READ waits, its deadline the present time. -/
def fetching : State :=
  { issued (holding (.fill line)) { txn (.fetchS line loc) [waiter (.read 8)] with deadline := 0 } with
    ingress := [command 13 []] }

/-- The one ISSUED entry of `fetching`. -/
theorem fetching_txns : ∀ g : Tag, fetching.txns[g] =
    if g = 5 then .issued { txn (.fetchS line loc) [waiter (.read 8)] with deadline := 0 } else .free := by
  decide

theorem fetching_txn {g : Tag} {t : Txn} (h : t ∈ TxnEntry.txn? fetching.txns[g]) :
    g = 5 ∧ t = { txn (.fetchS line loc) [waiter (.read 8)] with deadline := 0 } := by
  rw [fetching_txns] at h
  split at h
  · next e => cases h; exact ⟨e, rfl⟩
  · cases h

/-- The ways of `fetching`: every one I but way 0 of set 1. -/
theorem fetching_ways (l : Loc) : fetching.wayAt l = if l = loc then .fill line else .i := by
  obtain ⟨i, w⟩ := l
  by_cases h : i = 1
  · subst h; revert w; decide
  · have e : fetching.wayAt ⟨i, w⟩ = DirSet.reset.ways[w] := by
      have : readSet fetching.dir i = DirSet.reset := by
        show (if (1 : Fin 1024) = i then _ else DirSet.reset) = _
        rw [if_neg (Ne.symm h)]
      simp [State.wayAt, this]
    have n : (⟨i, w⟩ : Loc) ≠ loc := fun k => h (congrArg Loc.set k)
    have z : ∀ v : Fin 4, DirSet.reset.ways[v] = .i := by decide
    rw [e, if_neg n, z]

/-- The line that a way of the one listed set of `fetching` holds. -/
theorem fetching_lines {e : Fin 1024 × DirSet} (he : e ∈ fetching.dir) {w : Fin 4} {x : Addr}
    (hx : x ∈ (e.2.ways[w]).line?) : e.1 = 1 ∧ w = 0 ∧ x = line := by
  obtain rfl : e = (1, { ways := upd DirSet.reset.ways 0 (.fill line), lru := [1, 0, 2, 3] }) := by
    simpa [fetching, issued, holding] using he
  have z : ∀ v : Fin 4, (upd DirSet.reset.ways 0 (.fill line))[v] = if v = 0 then .fill line else .i := by
    decide
  simp only at hx
  rw [z] at hx
  split at hx
  · next h => cases hx; exact ⟨rfl, h, rfl⟩
  · cases hx

/-- A state that is not a reset state and meets the law of coherence. -/
theorem coherent_fetching : Coherent fetching where
  form := by decide
  inSet := by
    intro e he w x hx
    obtain ⟨h1, -, rfl⟩ := fetching_lines he hx
    rw [h1]
    decide
  oneWay := by
    intro e he v w x hx hy
    rw [(fetching_lines he hx).2.1, (fetching_lines he hy).2.1]
  oneBuffer := by
    have : ∀ i : Fin 4, fetching.eb[i] = none := by decide
    intro i v hv; rw [this] at hv; cases hv
  bufferOwned := by
    have : ∀ i : Fin 4, fetching.eb[i] = none := by decide
    intro i v hv; rw [this] at hv; cases hv
  dropBuffered := by
    intro g t ht x i hk
    obtain ⟨-, rfl⟩ := fetching_txn ht
    cases hk
  onePerLine := by
    intro g h t ht u hu _ _
    rw [(fetching_txn ht).1, (fetching_txn hu).1]
  kindInSet := by
    intro g t ht x l hk
    obtain ⟨-, rfl⟩ := fetching_txn ht
    rcases hk with hk | hk | ⟨b, hk⟩ | hk <;> cases hk
    decide
  entryHasWay := by
    intro g t ht l hl
    obtain ⟨-, rfl⟩ := fetching_txn ht
    cases hl
    exact fetching_ways loc
  wayHasEntry := by
    intro l hl
    rw [fetching_ways] at hl
    split at hl
    · next e => subst e; decide
    · cases hl
  cleaningHasEntry := by
    intro l x hx
    rw [fetching_ways] at hx
    split at hx <;> cases hx
  keepState := by
    intro g t ht x l hk
    obtain ⟨-, rfl⟩ := fetching_txn ht
    cases hk
  onePin := by
    have : ∀ i : Fin 4, fetching.pins[i] = none := by decide
    intro i j p hp; rw [this] at hp; cases hp
  activeHolds := by
    have : ∀ i : Fin 4, fetching.pins[i] = none := by decide
    intro i p hp; rw [this] at hp; cases hp
  oneActive := by
    have : ∀ i : Fin 4, fetching.pins[i] = none := by decide
    intro i j p hp; rw [this] at hp; cases hp
  waitingListed := by
    have : ∀ i : Fin 4, fetching.pins[i] = none := by decide
    intro i p hp; rw [this] at hp; cases hp
  listedWaits := by
    intro g t ht w hw i hi
    obtain ⟨-, rfl⟩ := fetching_txn ht
    obtain rfl : w = waiter (.read 8) := by simpa [txn] using hw
    cases hi
  listBounded := by
    intro g t ht
    obtain ⟨-, rfl⟩ := fetching_txn ht
    decide
  recallsCounted := by decide
  oneRecall := by decide
  notedInFill := by
    intro g t ht r hr
    obtain ⟨-, rfl⟩ := fetching_txn ht
    cases hr

/-- The state of a law's witness, with a command in front whose step runs. -/
def running (s : State) (c : Instr) : State := { s with pending := [c] }

theorem witness_NoTimerOutlivesItsMicrosecond :
    (let s := { pinned fetching (pin (.active loc 0 none)) with noticeInterval := some 0 }
     s.pending = [] ∧ (∃ d ∈ TxnEntry.deadline? s.txns[(5 : Tag)], d ≤ s.now) ∧
       (∃ p ∈ s.pins[(0 : Fin 4)], ∃ d ∈ Pin.deadline? p, d ≤ s.now) ∧ ∃ d ∈ s.noticeInterval, d ≤ s.now) :=
  ⟨rfl, ⟨0, rfl, Nat.le_refl 0⟩, ⟨_, rfl, 0, rfl, Nat.le_refl 0⟩, 0, rfl, Nat.le_refl 0⟩

theorem witness_StepsKeepTheLruOrder :
    DirectoryForm (holding (.fill line)) ∧ ∃ t, step (holding (.fill line)) = .next t := by
  refine ⟨⟨by decide, ?_⟩, _, rfl⟩
  intro e he
  obtain rfl : e = (1, { ways := upd DirSet.reset.ways 0 (.fill line), lru := [1, 0, 2, 3] }) := by
    simpa [holding] using he
  decide

theorem witness_StepsKeepTheCreditBalance :
    (let s := { asking up pRead with credits := upd (Vector.replicate 16 4) 2 3 }
     CreditForm s ∧ ∃ t, step s = .next t) ∧ CreditForm State.reset := by
  refine ⟨⟨?_, _, rfl⟩, rfl, rfl, rfl, by decide⟩
  show ∀ r : Requester, _ = 4
  decide

theorem witness_StepsKeepCapturesAndNotices :
    let s := { up with captures := (List.range 16).map capture, nextSeq := 16,
                       notices := [{ kind := .hold, detail := {}, count := 255 }] }
    (CaptureForm s ∧ NoticeForm s) ∧ ∃ t, step s = .next t :=
  ⟨⟨by unfold CaptureForm; decide, by unfold NoticeForm; decide⟩, _, rfl⟩

/-- R163: the three cases of the recording law, a count at 255 among them. -/
theorem witness_StepsKeepCapturesAndNotices_recording :
    (0x5F : BitVec 7).getLsbD NoticeKind.hold.bit = false ∧ (0x5F : BitVec 7).getLsbD NoticeKind.linkLoss.bit = true ∧
      (let a : Notice := { kind := .hold, detail := {}, count := 1 }
       let n : Notice := { kind := .linkLoss, detail := { lines := some 3 }, count := 255 }
       (∀ m ∈ [a], m.kind ≠ .linkLoss) ∧ [a, n] = [a] ++ n :: [] ∧ n.count ≤ 255) := by decide

theorem witness_StepsKeepTheTablesValid :
    TablesForm (watched up .hold) ∧ ∃ t, step (watched up .hold) = .next t := by
  refine ⟨?_, _, rfl⟩
  unfold TablesForm WindowForm WatchForm ConfigForm; decide

theorem witness_StepsKeepIsolationEmpty :
    ModeForm (holding (.fill line)) ∧ ∃ t, step (holding (.fill line)) = .next t := by
  refine ⟨⟨fun _ => rfl, ?_, ?_, rfl⟩, _, rfl⟩ <;> intro h <;> cases h

theorem witness_StepsKeepTheDrainAccount :
    let s := draining (issued up (drainTxn (.writebackDrop line 0)))
      { Drain.reset with st := .finishing, outstanding := 1 }
    DrainForm s ∧ ∃ t, step s = .next t :=
  ⟨⟨by decide, by decide, by decide, rfl⟩, _, rfl⟩

theorem witness_StepsKeepTimersAhead :
    let s := { issued up (txn (.ucRead line 8) []) with noticeInterval := some 8 }
    (TimerForm s ∧ TablesForm s) ∧ ∃ t, step s = .next t := by
  refine ⟨⟨?_, ?_⟩, _, rfl⟩
  · unfold TimerForm ConfigForm; decide
  · unfold TablesForm WindowForm WatchForm ConfigForm; decide

theorem witness_StepsKeepCoherence :
    Coherent fetching ∧ ∃ t, step fetching = .next t := ⟨coherent_fetching, _, rfl⟩

theorem witness_TablesChangeOnlyByTheirWrites :
    exec .farLinkUp State.reset = .next { State.reset with farLink := .up } ∧ Instr.farLinkUp ≠ .coldReset :=
  ⟨rfl, by decide⟩

theorem witness_ModeAndLinksChangeOnlyByTheirEvents :
    exec .nearLinkUp State.reset =
      .next { State.reset with nearLink := .up, credits := Vector.replicate 16 4 } := rfl

theorem witness_WatchStateChangesOnlyAtWatchChecks :
    exec .noticeTake (watched up .hold) = .next (watched up .hold) := rfl

theorem witness_ProducedPacketsKeepTheirOrder :
    exec .drainVisit { up with egress := [.credit 0] } = .next { up with egress := [.credit 0] } := rfl

/-! ### Witnesses: admission -/

theorem witness_PacketArrivalTakesACredit :
    up.nearLink = .up ∧ 0 < up.credits[senderOf pRead] ∧
      { up with credits := upd up.credits 2 0 }.credits[senderOf pRead] = 0 := by decide

theorem witness_MalformedRequestsAreAnswered :
    (∀ p ∈ [packet 1 2 7 65 line 0 0 0 [], packet 1 2 7 2 0x100007F 0 0 0 []],
      (asking up p).nearLink = .up ∧ (asking up p).ingress = [p] ∧ kindByte p = RequestKind.read.code ∧
        parseRequest p = none) ∧
    parseRequest pRead = some qRead ∧ parseRequest (pWrite line) = some (qWrite line) ∧
    (parseRequest (pUnlock 1) = some (qUnlock true) ∧ parseRequest (pAdd line) = some (qAdd line)) ∧
    (∀ p ∈ [[0, 1], [7, 1], [255, 1]], (asking up p).ingress = [p] ∧ unknownKind (kindByte p) = true) ∧
    (∀ p ∈ [command 7 [], command 0 [], command 15 [], command 1 [1]], (asking up p).ingress = [p] ∧
      kindByte p = mgmtCode ∧ commandWellFormed p = false) := by decide

theorem witness_AdmissionRefuses :
    (let s := asking { up with holds := upd up.holds 3 (some qLock) } pRead
     TakesRequest s pRead [] qRead ∧ s.heldOnLine 2 (lineOf qRead.addr) = true) ∧
    (let s := asking { up with mode := .isolated } pRead
     TakesRequest s pRead [] qRead ∧ s.heldOnLine 2 (lineOf qRead.addr) = false ∧
       s.matchesWith qRead .capture = false ∧ s.matchesWith qRead .hold = false ∧ s.mode = .isolated) ∧
    (Comes up (pWrite 0x4000000) (qWrite 0x4000000) ∧ Comes up (pWrite 0x5FFFFFE) (qWrite 0x5FFFFFE)) ∧
    (past up (pWrite 0x4000000) (qWrite 0x4000000)).exempt (qWrite 0x4000000) = false ∧
    (past up (pWrite 0x5FFFFFE) (qWrite 0x5FFFFFE)).exempt (qWrite 0x5FFFFFE) = false ∧
    (up.treatmentOf 0x4000000).policy = .deny ∧ (up.treatmentOf 0x6000000).policy = .deny ∧
    (up.treatmentOf 0x5FFFFFE).policy = .wb ∧
    (up.treatmentOf 0x5FFFFFE).permits (qWrite 0x5FFFFFE) = false ∧
    (let p := packet 3 2 7 64 0x2000000 0 0 0 []
     let q := { qLock with addr := 0x2000000 }
     let u := past up p q
     Comes up p q ∧ u.exempt q = false ∧ (u.treatmentOf q.addr).policy = .rc ∧
       (u.treatmentOf q.addr).permits q = true ∧ q.body.isLockRead = true) := by
  unfold Comes TakesRequest ReachesWindow; dsimp only; and_intros <;> decide

/-- R21: window entry 31 is the first to contain the last byte of its region, entry 0 the first byte of its own, and
none contains the byte past entry 31's. -/
theorem witness_AdmissionRefuses_lookup :
    (Covers up.windows[(31 : Fin 32)] 0x5FFFFFF ∧ ∀ j < (31 : Fin 32), ¬ Covers up.windows[j] 0x5FFFFFF) ∧
    Covers up.windows[(0 : Fin 32)] 0x1000000 ∧ (∀ i : Fin 32, ¬ Covers up.windows[i] 0x6000000) ∧
    up.config.defaultPolicy = .deny := by
  unfold Covers; and_intros <;> decide

theorem witness_WatchEntriesCaptureAndHold :
    (let s := asking (watched { up with
        captures := (List.range 16).map capture, holds := upd (Vector.replicate 4 (some { qLock with addr := 0 })) 3 none }
        .hold) pRead
     TakesRequest s pRead [] qRead ∧ s.heldOnLine 2 line = false ∧ s.matchesWith qRead .hold = true ∧
       s.freeHold = some 3) ∧
    (let s := asking (watched { up with
        holds := Vector.replicate 4 (some { qLock with addr := 0 }) } .hold) pRead
     TakesRequest s pRead [] qRead ∧ s.heldOnLine 2 line = false ∧ s.matchesWith qRead .hold = true ∧
       s.freeHold = none) ∧
    (let s := asking (watched { up with mode := .isolated } .capture) pRead
     TakesRequest s pRead [] qRead ∧ s.heldOnLine 2 line = false ∧ s.matchesWith qRead .hold = false ∧
       s.matchesWith qRead .capture = true ∧ s.mode = .isolated) ∧
    (let s := asking (watched up .capture) pRead
     TakesRequest s pRead [] qRead ∧ s.heldOnLine 2 line = false ∧ s.matchesWith qRead .hold = false ∧
       s.matchesWith qRead .capture = true ∧ s.mode = .operating) ∧
    (let s := asking (watched up .count) pRead
     TakesRequest s pRead [] qRead ∧ s.heldOnLine 2 line = false ∧ s.matchesWith qRead .hold = false ∧
       s.matchesWith qRead .capture = false ∧ s.mode = .operating) := by
  unfold TakesRequest; dsimp only; and_intros <;> decide

/-- R131: an entry that shares with a request only the last byte of its region, which is the first of the byte
range; a hit count one below its end and at it. -/
theorem witness_WatchEntriesCaptureAndHold_matching :
    (let e : WatchEntry := { enable := true, base := 0x1000078, exponent := 0, kinds := 1, mask := 4,
                             action := .hold, hits := 4294967294 }
     1 ≤ qRead.body.len ∧ e.enable = true ∧ CommonByte e qRead 0x1000078 ∧ e.kinds.getLsbD 0 = true ∧
       e.mask.getLsbD qRead.requester.val = true ∧ e.hits ≤ 4294967295 ∧ e.hit.hits ≤ 4294967295) := by
  unfold CommonByte; dsimp only; and_intros <;> decide

/-! ### Witnesses: the ways to the window check -/

/-- A READ of a line in S that comes to the window check captured, and one that RELEASE_HOLD releases; each meets
the hypotheses of the statement on READs that are served. -/
theorem witness_ComesToWindow :
    (let s := asking (watched (holding (.copy .s line data)) .capture) pRead
     let u := captured (counted s pRead [] qRead) (captureOf s qRead none) (captureLost qRead)
     ComesToWindow qRead .read s u id ∧ ReachesDirectory u qRead ∧ Unobstructed u qRead ∧ dirWf u.dir = true ∧
       Resident u (lineOf qRead.addr) loc .s data) ∧
    (let p := command 10 [3]
     let s := asking { holding (.copy .s line data) with holds := upd up.holds 3 (some qRead) } p
     let u := { credited s p [] with holds := upd s.holds 3 none }
     ComesToWindow qRead .releaseHold s u (fun t => replying t p .ok (.held 2 7)) ∧ ReachesDirectory u qRead ∧
       Unobstructed u qRead ∧ dirWf u.dir = true ∧ Resident u (lineOf qRead.addr) loc .s data) := by
  refine ⟨⟨.captured ?_ ?_ ?_ ?_ ?_, ?_⟩, ⟨.released (rest := []) (i := 3) ?_ ?_ ?_ ?_ ?_, ?_⟩⟩
  all_goals first
    | (unfold TakesRequest; decide)
    | (unfold TakesCommand; decide)
    | (unfold FromManager; decide)
    | (unfold ReachesDirectory Unobstructed Resident; decide)
    | decide

theorem witness_VictimIsNearestTheBack :
    (let s := full .i (.copy .m line data) .i (.fill line)
     (readSet s.dir 1).lru = [1, 0] ++ 2 :: [3] ∧ (readSet s.dir 1).ways[(2 : Fin 4)] = .i ∧
       ∀ u ∈ [(3 : Fin 4)], (readSet s.dir 1).ways[u] ≠ .i) ∧
    (let s := full (.copy .s line data) (.copy .m line data) (.fill line) (.copy .cleaning line data)
     (readSet s.dir 1).lru = [1] ++ 0 :: [2, 3] ∧
       (∀ u ∈ (readSet s.dir 1).lru, (readSet s.dir 1).ways[u] ≠ .i) ∧
       (readSet s.dir 1).ways[(0 : Fin 4)].isStable = true ∧ s.pinned { set := 1, way := 0 } = false ∧
       ∀ u ∈ [(2 : Fin 4), 3], (readSet s.dir 1).ways[u].isStable = false ∨
         s.pinned { set := 1, way := u } = true) ∧
    (let s := pinned (full (.copy .x line data) (.fill line) (.fill line) (.fill line)) (pin (.active loc 64 none))
     ∀ u ∈ (readSet s.dir 1).lru, (readSet s.dir 1).ways[u] ≠ .i ∧
       ((readSet s.dir 1).ways[u].isStable = false ∨ s.pinned { set := 1, way := u } = true)) := by
  decide

/-! ### Witnesses: requests at the directory -/

/-- An upgrade under way with a LOCK_READ waiting. -/
def upgrading : State :=
  issued (holding (.copy .upgrade line data)) (txn (.upgrade line loc false) [waiter (.lockRead 8 0)])

theorem witness_ReadsAreServed :
    Reaches upgrading pRead qRead ∧ Resident (past upgrading pRead qRead) (lineOf qRead.addr) loc .upgrade data ∧
      (past upgrading pRead qRead).fetchOf loc = some (5, txn (.upgrade line loc false) [waiter (.lockRead 8 0)]) ∧
      ¬ WaitsToWrite 2 [waiter (.lockRead 8 0)] ∧
      Reaches (holding (.copy .s line data)) pRead qRead ∧
      Resident (past (holding (.copy .s line data)) pRead qRead) (lineOf qRead.addr) loc .s data := by
  refine ⟨?_, ?_, ?_, ?_, ?_, ?_⟩
  case refine_4 =>
    rintro ⟨w, hw, -, h⟩
    obtain rfl := List.mem_singleton.1 hw
    rcases h with ⟨l, m, d, h⟩ | ⟨o, h⟩ <;> cases h
  all_goals
    (try unfold Reaches Comes TakesRequest ReachesWindow ReachesDirectory Unobstructed)
    (try unfold Resident)
    and_intros <;> decide

theorem witness_WritesAndAtomicsAreApplied :
    Reaches (holding (.copy .m line data)) (pWrite 0x100007E) (qWrite 0x100007E) ∧
      Resident (past (holding (.copy .m line data)) (pWrite 0x100007E) (qWrite 0x100007E)) (lineOf 0x100007E) loc .m
        data ∧
      Reaches (holding (.copy .x line data)) (pAdd 0x1000078) (qAdd 0x1000078) ∧
      Resident (past (holding (.copy .x line data)) (pAdd 0x1000078) (qAdd 0x1000078)) (lineOf 0x1000078) loc .x
        data := by
  unfold Reaches Comes TakesRequest ReachesWindow ReachesDirectory Unobstructed Resident; and_intros <;> decide

/-- R2, with numbers of the test's own: the masked byte at offset 62 stays, the one at 63 is replaced; a quantity is
read and written with its least significant byte at the lowest address. -/
theorem witness_WritesAndAtomicsAreApplied_bytes :
    (writeBytes data 62 [false, true] [10, 11])[(63 : Fin 64)] = 11 ∧
      (writeBytes data 62 [false, true] [10, 11])[(62 : Fin 64)] = 0 ∧
      (writeQuantity data 56 0x0102030405060708)[(56 : Fin 64)] = 8 ∧
      (writeQuantity data 56 0x0102030405060708)[(63 : Fin 64)] = 1 ∧
      lineBytes data 0 2 = [254, 255] ∧ (quantityAt data 0).extractLsb' 0 8 = 254 := by decide

/-- Three pin records of others. -/
def threePins (s : State) : State :=
  let p (r : Requester) : Option Pin := some { owner := r, line := 0, st := .waiting none }
  { s with pins := ⟨⟨[p 3, p 4, p 5, none]⟩, rfl⟩ }

theorem witness_LockReadsActivateTheirPin :
    (let s := threePins (holding (.copy .m line data))
     let u := past s pLock qLock
     Reaches s pLock qLock ∧ Resident u (lineOf qLock.addr) loc .m data ∧ u.hasPin 2 = false ∧
       u.freePinRecord = some 3) := by
  unfold Reaches Comes TakesRequest ReachesWindow ReachesDirectory Unobstructed Resident; dsimp only; and_intros <;> decide

theorem witness_LockReadsWaitUnderTheirPin :
    (let shared := threePins (holding (.copy .s line data))
     (∀ s ∈ [busyBut shared [31], busyBut shared []], Reaches s pLock qLock ∧ (past s pLock qLock).hasPin 2 = false ∧
       (past s pLock qLock).freePinRecord = some 3 ∧
       Resident (past s pLock qLock) (lineOf qLock.addr) loc .s data ∧
       (past s pLock qLock).writebackPending line = false) ∧
       (past (busyBut shared [31]) pLock qLock).freeTag = some 31 ∧
       (past (busyBut shared []) pLock qLock).freeTag = none) ∧
    (let s := threePins (holding (.copy .cleaning line data))
     Reaches s pLock qLock ∧ (past s pLock qLock).freePinRecord = some 3 ∧
       Resident (past s pLock qLock) (lineOf qLock.addr) loc .cleaning data) ∧
    (let t n := txn (.fetchX line loc) (List.replicate n (waiter (.read 8)))
     let s n := threePins (issued (holding (.fill line)) (t n))
     (∀ n ∈ [7, 8], Reaches (s n) pLock qLock ∧ (past (s n) pLock qLock).freePinRecord = some 3 ∧
       (past (s n) pLock qLock).lookup (lineOf qLock.addr) = some loc ∧
       Way.awaits ((past (s n) pLock qLock).wayAt loc) = true ∧
       (past (s n) pLock qLock).fetchOf loc = some (5, t n)) ∧ (t 7).waiters.length < 8 ∧ 8 ≤ (t 8).waiters.length) ∧
    (let s := threePins up
     let u := past s pLock qLock
     Reaches s pLock qLock ∧ u.lookup (lineOf qLock.addr) = none ∧ u.writebackPending line = false ∧
       u.victim (setIndex line) = some { set := 1, way := 3 } ∧ (u.wayAt { set := 1, way := 3 }).isM = false ∧
       u.freeTag = some 0) := by
  unfold Reaches Comes TakesRequest ReachesWindow ReachesDirectory Unobstructed Resident; dsimp only; and_intros <;> decide

/-- Every way of set 1 holds another line in M. -/
def modified : State :=
  full (.copy .m 0x10040 data) (.copy .m 0x20040 data) (.copy .m 0x30040 data) (.copy .m 0x40040 data)

/-- Every way of set 1 is FILL for another line. -/
def filling : State := full (.fill 0x10040) (.fill 0x20040) (.fill 0x30040) (.fill 0x40040)

/-- A LOCK_READ that misses with an M victim, the two FREE tags 0 and 31; and one that misses without a victim,
without a FREE tag, and with one FREE tag alone for an M victim. -/
theorem witness_LockReadsWaitUnderTheirPin_misses :
    (∀ s ∈ [busyBut modified [0, 31], filling, busyBut up [], busyBut modified [31]],
      Reaches (threePins s) pLock qLock ∧ (past (threePins s) pLock qLock).hasPin 2 = false ∧
        (past (threePins s) pLock qLock).freePinRecord = some 3 ∧
        (past (threePins s) pLock qLock).lookup (lineOf qLock.addr) = none ∧
        (past (threePins s) pLock qLock).writebackPending (lineOf qLock.addr) = false) ∧
      MissEvicts (past (threePins (busyBut modified [0, 31])) pLock qLock) line { set := 1, way := 3 } 0x40040 data 0
        0 31 ∧
      MissRefused (past (threePins filling) pLock qLock) line ∧
      MissRefused (past (threePins (busyBut up [])) pLock qLock) line ∧
      MissRefused (past (threePins (busyBut modified [31])) pLock qLock) line := by
  refine ⟨?_, ?_, .inl ?_, .inr (.inl ?_), .inr (.inr ⟨{ set := 1, way := 3 }, ?_, ?_, .inr ?_⟩)⟩
  · unfold Reaches Comes TakesRequest ReachesWindow ReachesDirectory Unobstructed; decide
  · unfold MissEvicts; decide
  all_goals decide

theorem witness_UnlockWritesEndTheirPin :
    (let s := pinned (holding (.copy .x line data)) (pin (.active loc 64 none))
     let u := past s (pUnlock 0) (qUnlock false)
     Comes s (pUnlock 0) (qUnlock false) ∧ dirWf u.dir = true ∧
       u.ownPin 2 (lineOf (qUnlock false).addr) = some 0 ∧ u.pins[(0 : Fin 4)] = some (pin (.active loc 64 none)) ∧
       Resident u line loc .x data) ∧
    (let r := ofLine .downgrade
     let s := pinned (holding (.copy .m line data)) (pin (.active loc 64 (some r)))
     let u := past s (pUnlock 1) (qUnlock true)
     Comes s (pUnlock 1) (qUnlock true) ∧ dirWf u.dir = true ∧
       u.ownPin 2 (lineOf (qUnlock true).addr) = some 0 ∧ Resident u line loc .m data ∧
       r.line = lineOf (qUnlock true).addr ∧
       ∀ j : Fin 4, ∀ w ∈ u.pins[j], w.activeAt loc = true → j = 0) := by
  unfold Comes TakesRequest ReachesWindow Resident; dsimp only; and_intros <;> decide

theorem witness_PinTableRefusals :
    (let s := pinned up (pin (.waiting (some loc)))
     let u := past s pLock qLock
     Comes s pLock qLock ∧ ReachesDirectory u qLock ∧ qLock.body.isLockRead = true ∧ u.hasPin 2 = true) ∧
    (let p : Pin := { owner := 3, line := 0, st := .waiting none }
     let s := { up with pins := Vector.replicate 4 (some p) }
     let u := past s pLock qLock
     Comes s pLock qLock ∧ ReachesDirectory u qLock ∧ u.hasPin 2 = false ∧ u.freePinRecord = none) ∧
    (let s := pinned up (pin (.waiting none))
     let u := past s (pUnlock 1) (qUnlock true)
     Comes s (pUnlock 1) (qUnlock true) ∧ ReachesDirectory u (qUnlock true) ∧
       (qUnlock true).body.kind = .unlockWrite ∧ u.ownPin 2 (lineOf (qUnlock true).addr) = none) := by
  unfold Comes TakesRequest ReachesWindow ReachesDirectory; dsimp only; and_intros <;> decide

/-- An eviction buffer entry holds the line. -/
def buffered (s : State) : State :=
  { s with eb := upd s.eb 3 (some { line := line, data := data, origin := .victim, tag := 5 }) }

theorem witness_BusyLinesAnswerRetry :
    (let p := pWrite line
     let q := qWrite line
     let pending := txn (.writebackKeep line loc) []
     let clean := issued (holding (.copy .s line data)) pending
     (∀ s ∈ [buffered up, pinned up { pin (.active loc 64 none) with owner := 3 }, issued up pending, clean],
       Comes s p q ∧ ReachesDirectory (past s p q) q ∧
         (s.inEvictionBuffer line = true ∨ s.foreignPin 2 line = true ∨
           (s.writebackPending line = true ∧ s.lookup line = none) ∨ s = clean)) ∧
       q.body.kind ≠ .unlockWrite ∧ q.body.isLockRead = false ∧ (past clean p q).writebackPending line = true ∧
       q.body.kind ≠ .read ∧ Resident (past clean p q) line loc .s data) ∧
    (let s := buffered up
     let u := past s pLock qLock
     Comes s pLock qLock ∧ ReachesDirectory u qLock ∧ u.hasPin 2 = false ∧ u.freePinRecord ≠ none ∧
       u.inEvictionBuffer line = true) := by
  unfold Comes TakesRequest ReachesWindow ReachesDirectory Resident; dsimp only; and_intros <;> decide

theorem witness_WritesWaitForExclusiveRights :
    (let p := pWrite line
     let q := qWrite line
     let t n := txn (.fetchX line loc) (List.replicate n (waiter (.read 8)))
     let s n := issued (holding (.fill line)) (t n)
     let shared := holding (.copy .s line data)
     let cleaning := holding (.copy .cleaning line data)
     (∀ v ∈ [s 7, s 8, busyBut shared [31], busyBut shared [], cleaning],
       Reaches v p q ∧ (past v p q).lookup line = some loc) ∧
       plainAccess q.body = some (.write 2 [false, true] [10, 11]) ∧ q.body.kind ≠ .read ∧
       (past (s 7) p q).wayAt loc = .fill line ∧ (past (s 7) p q).fetchOf loc = some (5, t 7) ∧
       (t 7).waiters.length < 8 ∧ (past (s 8) p q).fetchOf loc = some (5, t 8) ∧ 8 ≤ (t 8).waiters.length ∧
       (past (busyBut shared [31]) p q).wayAt loc = .copy .s line data ∧
       (past (busyBut shared [31]) p q).writebackPending line = false ∧
       (past (busyBut shared [31]) p q).freeTag = some 31 ∧ (past (busyBut shared []) p q).freeTag = none ∧
       (past cleaning p q).wayAt loc = .copy .cleaning line data) := by
  unfold Reaches Comes TakesRequest ReachesWindow ReachesDirectory Unobstructed; dsimp only; and_intros <;> decide

/-- A READ in FILL; a READ in UPGRADE behind its own requester's write; an ATOMIC in UPGRADE, on S and in
CLEANING. -/
theorem witness_WritesWaitForExclusiveRights_reads_and_atomics :
    (let t := txn (.fetchX line loc) [waiter (.read 8)]
     let own := txn (.upgrade line loc false) [waiter (.atomic (.swap 1))]
     let s := issued (holding (.copy .upgrade line data)) own
     let p := pAdd 0x1000078
     let q := qAdd 0x1000078
     Reaches (issued (holding (.fill line)) t) pRead qRead ∧ plainAccess qRead.body = some (.read 8) ∧
       (past (issued (holding (.fill line)) t) pRead qRead).fetchOf loc = some (5, t) ∧
       Reaches s pRead qRead ∧ (past s pRead qRead).wayAt loc = .copy .upgrade line data ∧
       (past s pRead qRead).fetchOf loc = some (5, own) ∧
       Reaches s p q ∧ plainAccess q.body = some (.atomic (.add 3)) ∧ q.body.kind ≠ .read ∧
       Reaches (holding (.copy .s line data)) p q ∧ Reaches (holding (.copy .cleaning line data)) p q) ∧
    WaitsToWrite 2 [waiter (.atomic (.swap 1))] := by
  refine ⟨?_, waiter (.atomic (.swap 1)), List.mem_singleton.2 rfl, rfl, .inr ⟨_, rfl⟩⟩
  unfold Reaches Comes TakesRequest ReachesWindow ReachesDirectory Unobstructed; dsimp only; and_intros <;> decide

theorem witness_MissesAllocateAndFetch :
    (let s := busyBut up [31]
     let u := past s pRead qRead
     Reaches s pRead qRead ∧ u.lookup (lineOf qRead.addr) = none ∧ u.writebackPending line = false ∧
       plainAccess qRead.body = some (.read 8) ∧ u.victim (setIndex line) = some { set := 1, way := 3 } ∧
       (u.wayAt { set := 1, way := 3 }).isM = false ∧ u.freeTag = some 31) ∧
    (∀ v ∈ [busyBut modified [0, 31], filling, busyBut up [], busyBut modified [31]],
      Reaches v (pAdd line) (qAdd line) ∧ (past v (pAdd line) (qAdd line)).lookup line = none ∧
        (past v (pAdd line) (qAdd line)).writebackPending line = false) ∧
    MissEvicts (past (busyBut modified [0, 31]) (pAdd line) (qAdd line)) line { set := 1, way := 3 } 0x40040 data 0 0
      31 ∧
    MissRefused (past filling (pAdd line) (qAdd line)) line ∧
    MissRefused (past (busyBut up []) (pAdd line) (qAdd line)) line ∧
    MissRefused (past (busyBut modified [31]) (pAdd line) (qAdd line)) line := by
  refine ⟨?_, ?_, ?_, .inl ?_, .inr (.inl ?_), .inr (.inr ⟨{ set := 1, way := 3 }, ?_, ?_, .inr ?_⟩)⟩
  · unfold Reaches Comes TakesRequest ReachesWindow ReachesDirectory Unobstructed; dsimp only; and_intros <;> decide
  · unfold Reaches Comes TakesRequest ReachesWindow ReachesDirectory Unobstructed; decide
  · unfold MissEvicts; decide
  all_goals decide

/-- The waiter of a WRITE or an ATOMIC that goes home. -/
def homeWrite : Waiter :=
  { requester := 2, id := 7, offset := 62, access := .write 2 [false, true] [10, 11] }

theorem witness_UncachedRequestsGoHome :
    (let p := pWrite 0x203FFFE
     let q := qWrite 0x203FFFE
     let x : Addr := 0x203FFC0
     let copy : State := { up with dir := [(1023, { ways := upd DirSet.reset.ways 3 (.copy .s x data)
                                                    lru := [0, 1, 2, 3] })] }
     (∀ s ∈ [busyBut up [31], busyBut copy [31], busyBut copy []], Removes s p q homeWrite ∧
       (past s p q).linePinned x = false ∧ (past s p q).inEvictionBuffer x = false ∧
       (past s p q).writebackPending x = false) ∧
       lineOf q.addr = x ∧ (past (busyBut up [31]) p q).lookup x = none ∧
       (past (busyBut up [31]) p q).freeTag = some 31 ∧
       Resident (past (busyBut copy [31]) p q) x { set := 1023, way := 3 } .s data ∧
       (past (busyBut copy [31]) p q).freeTag = some 31 ∧ (past (busyBut copy []) p q).freeTag = none) := by
  unfold Removes Comes TakesRequest ReachesWindow ReachesRemoval Resident; dsimp only; and_intros <;> decide

theorem witness_CopyRemovalAnswersRetry :
    (let p := packet 1 2 7 1 0x3000040 0 0 0 []
     let q : Request := { requester := 2, id := 7, addr := 0x3000040, body := .read 1 }
     let w : Waiter := { requester := 2, id := 7, offset := 0, access := .read 1 }
     let x : Addr := 0x3000040
     let e : Option EvictionEntry := some { line := x, data := data, origin := .drain, tag := 0 }
     let stale := holding (.copy .m x data)
     let pinnedS := pinned up { pin (.waiting none) with line := x }
     let bufferedS := { up with eb := upd up.eb 0 e }
     let pending := issued up (txn (.writebackKeep x loc) [])
     let busy := holding (.copy .cleaning x data)
     (∀ s ∈ [pinnedS, bufferedS, pending, busy, stale, busyBut stale []], Removes s p q w) ∧
       (past pinnedS p q).linePinned x = true ∧ (past bufferedS p q).inEvictionBuffer x = true ∧
       (past pending p q).writebackPending x = true ∧
       (past busy p q).lookup x = some loc ∧ ((past busy p q).wayAt loc).isBusy = true ∧
       (∀ s ∈ [past stale p q, past (busyBut stale []) p q], s.linePinned x = false ∧
         s.inEvictionBuffer x = false ∧ s.writebackPending x = false ∧ Resident s x loc .m data) ∧
       (past stale p q).freeSlot = some 0 ∧ (past stale p q).freeTag = some 0 ∧
       (past (busyBut stale []) p q).freeTag = none) := by
  unfold Removes Comes TakesRequest ReachesWindow ReachesRemoval Resident; dsimp only; and_intros <;> decide

/-! ### Witnesses: far responses -/

theorem witness_FarChannelsAreFirstInFirstOut :
    (let r : FarRequest := .ucWrite 31 0xFFFFFFFFFFC0 64 (List.replicate 64 true) (zeros 64)
     let a : RecallAck := { id := 255, status := .dirty data }
     let s := { up with reqCh := [r], ackCh := [a] }
     s.farLink = .up ∧ s.reqCh = r :: [] ∧ s.ackCh = a :: []) := ⟨rfl, rfl, rfl⟩

/-- A grant of data. -/
def pGrant (code : Nat) : Packet := response code 5 (zeros 64)

theorem witness_SharedGrantsServeReads :
    (let t := txn (.fetchX line loc) [waiter (.read 8)]
     let s := answered (issued (holding (.fill line)) t) (pGrant 1)
     TakesResponse s (pGrant 1) [] 1 5 t ∧ (pGrant 1).length = 68 ∧ t.noted = none ∧
       (∀ w ∈ t.waiters, w.access.isRead = true) ∧ dirWf s.dir = true) := by
  unfold TakesResponse; dsimp only; and_intros <;> decide

theorem witness_ExclusiveGrantsWalkTheList :
    (let t := txn (.upgrade line loc true) [waiter (.write 1 [true] [9]), waiter (.read 8)]
     let s := answered (issued (holding (.fill line)) t) (pGrant 2)
     TakesResponse s (pGrant 2) [] 2 5 t ∧ t.noted = none ∧ (∀ w ∈ t.waiters, Waiter.pin? w = none) ∧
       dirWf s.dir = true ∧ (pGrant 2).length = 68) ∧
    (let t := txn (.upgrade line loc false) [waiter (.atomic (.swap 1))]
     let p := response 3 5 [9]
     let s := answered (issued (holding (.copy .upgrade line data)) t) p
     TakesResponse s p [] 3 5 t ∧ t.noted = none ∧ dirWf s.dir = true ∧ (∀ w ∈ t.waiters, Waiter.pin? w = none) ∧
       s.wayAt loc = .copy .upgrade line data) := by
  unfold TakesResponse; dsimp only; and_intros <;> decide

theorem witness_SharedGrantsStopAtWrites :
    (let w := waiter (.write 1 [true] [9])
     let t := txn (.fetchS line loc) ([waiter (.read 8)] ++ w :: [waiter (.read 8)])
     let s := answered (issued (holding (.fill line)) t) (pGrant 1)
     TakesResponse s (pGrant 1) [] 1 5 t ∧ (pGrant 1).length = 68 ∧ t.noted = none ∧ dirWf s.dir = true ∧
       (∀ v ∈ [waiter (.read 8)], v.access.isRead = true) ∧ w.access.isRead = false) := by
  unfold TakesResponse; dsimp only; and_intros <;> decide

/-- A write ahead of the LOCK_READ; behind it another requester's LOCK_READ and a write of the pin's owner: under a
GRANT_X_DATA to a fetch, and under a GRANT_X to an upgrade. -/
theorem witness_WalksActivatePins :
    (let ahead := [waiter (.write 1 [true] [9])]
     let w := waiter (.lockRead 8 3)
     let ws : List Waiter := [{ requester := 3, id := 1, offset := 0, access := .lockRead 8 0 },
       waiter (.write 1 [true] [8])]
     let t k := txn k (ahead ++ w :: ws)
     let s v k p := { answered (issued (holding v) (t k)) p with
       pins := ⟨⟨[some { pin (.waiting (some loc)) with owner := 3 }, none, none, some (pin (.waiting (some loc)))]⟩,
         rfl⟩ }
     let fetch := s (.fill line) (.fetchX line loc) (pGrant 2)
     let upgrade := s (.copy .upgrade line data) (.upgrade line loc false) (response 3 5 [])
     TakesResponse fetch (pGrant 2) [] 2 5 (t (.fetchX line loc)) ∧ (pGrant 2).length = 68 ∧
       dirWf fetch.dir = true ∧ fetch.pins[(3 : Fin 4)] = some (pin (.waiting (some loc))) ∧
       TakesResponse upgrade (response 3 5 []) [] 3 5 (t (.upgrade line loc false)) ∧
       upgrade.wayAt loc = .copy .upgrade line data ∧ dirWf upgrade.dir = true ∧
       upgrade.pins[(3 : Fin 4)] = some (pin (.waiting (some loc))) ∧
       (∀ u ∈ ahead, Waiter.pin? u = none) ∧ ∀ u ∈ ws, u.requester = w.requester → Waiter.pin? u = none) := by
  unfold TakesResponse; dsimp only; and_intros <;> decide

theorem witness_NotedRecallsMeetTheGrantedLine :
    (let w := waiter (.write 1 [true] [9])
     let t ws : Txn := { txn (.fetchS line loc) ws with noted := some (ofLine .surrender) }
     let s ws := { answered (issued (holding (.fill line)) (t ws)) (pGrant 1) with recallCount := 1 }
     let a := [waiter (.read 8)]
     let b := [waiter (.read 8)] ++ w :: []
     TakesResponse (s a) (pGrant 1) [] 1 5 (t a) ∧ TakesResponse (s b) (pGrant 1) [] 1 5 (t b) ∧
       (pGrant 1).length = 68 ∧ dirWf (s a).dir = true ∧ (ofLine .surrender).line = line ∧
       (s a).lookup line = some loc ∧ (s a).wayAt loc = .fill line ∧ (s a).writebackPending line = false ∧
       (s a).activePinAt loc = none ∧ (s a).fetchOf loc = some (5, t a) ∧ (s b).fetchOf loc = some (5, t b) ∧
       (∀ v ∈ a, v.access.isRead = true) ∧ w.access.isRead = false) := by
  unfold TakesResponse; dsimp only; and_intros <;> decide

/-- A noted recall on a fetch, and on an upgrade that has lost its copy, whose walk leaves M; and one whose walk
applies a WRITE and then activates the pin of record 3, two requesters waiting behind it. -/
theorem witness_NotedRecallsMeetTheGrantedLine_modified_and_pinned :
    (let w := waiter (.write 1 [true] [9])
     let l := waiter (.lockRead 8 3)
     let u : Waiter := { requester := 3, id := 1, offset := 0, access := .lockRead 8 0 }
     let t k ws : Txn := { txn k ws with noted := some (ofLine .downgrade) }
     let s t := { answered (issued (holding (.fill line)) t) (pGrant 2) with
       recallCount := 1
       pins := ⟨⟨[some { pin (.waiting (some loc)) with owner := 3 }, none, none, some (pin (.waiting (some loc)))]⟩,
         rfl⟩ }
     (∀ v ∈ [t (.fetchX line loc) [w], t (.upgrade line loc true) [w], t (.fetchX line loc) ([w] ++ l :: [u, w])],
       TakesResponse (s v) (pGrant 2) [] 2 5 v ∧ (s v).lookup line = some loc ∧ (s v).wayAt loc = .fill line ∧
         (s v).writebackPending line = false ∧ (s v).activePinAt loc = none ∧ (s v).fetchOf loc = some (5, v) ∧
         dirWf (s v).dir = true ∧ v.noted = some (ofLine .downgrade)) ∧
       (pGrant 2).length = 68 ∧ (ofLine .downgrade).line = line ∧ (walked data [w]).2.1 = true ∧
       (∀ v ∈ [w], Waiter.pin? v = none) ∧ l.access = .lockRead 8 3 ∧
       (s (t (.fetchX line loc) [w])).pins[(3 : Fin 4)] = some (pin (.waiting (some loc))) ∧
       ∀ v ∈ [u, w], Waiter.pin? v ≠ some 3 ∧ (v.requester = l.requester → Waiter.pin? v = none)) := by
  unfold TakesResponse; dsimp only; and_intros <;> decide

theorem witness_GrantWithoutDataIsReissued :
    (let t := txn (.upgrade line loc true) [waiter (.write 1 [true] [9])]
     ∀ p ∈ [response 3 5 [], response 3 5 [9]],
       TakesResponse (answered (issued (holding (.fill line)) t) p) p [] 3 5 t) := by
  unfold TakesResponse; dsimp only; decide

theorem witness_WritebacksComplete :
    (let p := response 4 5 []
     let drop := txn (.writebackDrop line 3) []
     let keep := drainTxn (.writebackKeep line loc)
     let last := drainTxn (.writebackDrop line 0)
     let s k w d := answered (draining (issued (holding w) k) d) p
     let scan := { Drain.reset with st := .scanning, outstanding := 1 }
     let fin := { Drain.reset with st := .finishing, outstanding := 1 }
     TakesResponse (s drop (.fill 0x20040) Drain.reset) p [] 4 5 drop ∧ p.length = 4 ∧ drop.origin = .request ∧
       TakesResponse (s keep (.copy .cleaning line data) scan) p [] 4 5 keep ∧ keep.origin = .drain ∧
       dirWf (s keep (.copy .cleaning line data) scan).dir = true ∧
       (s keep (.copy .cleaning line data) scan).drain.st = .scanning ∧
       (s keep (.copy .cleaning line data) scan).wayAt loc = .copy .cleaning line data ∧
       TakesResponse (s keep (.copy .s line data) scan) p [] 4 5 keep ∧
       (s keep (.copy .s line data) scan).wayAt loc = .copy .s line data ∧
       TakesResponse (s last (.fill 0x20040) fin) p [] 4 5 last ∧
       (s last (.fill 0x20040) fin).drain.st = .finishing ∧
       (s last (.fill 0x20040) fin).drain.outstanding = 1 ∧
       (s last (.fill 0x20040) fin).drain.pendingReply = some (0, 3)) := by
  unfold TakesResponse; dsimp only; and_intros <;> decide

/-- The ends that a drain counts: a DROP of origin DRAIN in SCANNING; a KEEP in FINISHING, its way no longer in
CLEANING, with another write-back outstanding; the last one in FINISHING with no reply pending. -/
theorem witness_WritebacksComplete_drains :
    (let drop := drainTxn (.writebackDrop line 3)
     let keep := drainTxn (.writebackKeep line loc)
     let d st n : Drain := { Drain.reset with st := st, outstanding := n }
     let s k v := { answered (issued (holding (.copy .s line data)) k) (response 4 5 []) with drain := v }
     TakesResponse (s drop (d .scanning 1)) (response 4 5 []) [] 4 5 drop ∧ drop.origin = .drain ∧
       TakesResponse (s keep (d .finishing 2)) (response 4 5 []) [] 4 5 keep ∧ keep.origin = .drain ∧
       (s keep (d .finishing 2)).drain.outstanding = 2 ∧ (s keep (d .finishing 2)).wayAt loc = .copy .s line data ∧
       TakesResponse (s drop (d .finishing 1)) (response 4 5 []) [] 4 5 drop ∧
       (s drop (d .finishing 1)).drain.pendingReply = none ∧ (response 4 5 []).length = 4 ∧
       dirWf (s drop (d .scanning 1)).dir = true) := by
  unfold TakesResponse; dsimp only; and_intros <;> decide

theorem witness_UncachedTransactionsComplete :
    (let p := response 5 5 (zeros 64)
     let t := txn (.ucRead line 64) [waiter (.read 64)]
     TakesResponse (answered (issued up t) p) p [] 5 5 t ∧ t.kind = .ucRead line (respPayload p).length) ∧
    (let p := response 6 5 []
     let t := txn (.ucWrite line 1) []
     TakesResponse (answered (issued up t) p) p [] 6 5 t ∧ p.length = 4) ∧
    (let p := response 7 5 (zeros 8)
     let t := txn (.farAtomic line) [waiter (.atomic (.add 1))]
     TakesResponse (answered (issued up t) p) p [] 7 5 t ∧ p.length = 12) := by
  unfold TakesResponse; dsimp only; and_intros <;> decide

/-- The shapes of an entry that ends unanswered: a fetch with a noted recall, an uncached read, a WRITEBACK DROP, a
drain's WRITEBACK DROP, a drain's WRITEBACK KEEP whose way is S, and one whose way is CLEANING. -/
def ending : List (Txn × Way) :=
  [({ txn (.fetchX line loc) [waiter (.lockRead 8 0)] with noted := some (ofLine .downgrade) }, .fill line),
   (txn (.ucRead line 8) [waiter (.read 8)], .fill 0x20040),
   (txn (.writebackDrop line 3) [], .fill 0x20040),
   (drainTxn (.writebackDrop line 3), .fill 0x20040),
   (drainTxn (.writebackKeep line loc), .copy .s line data),
   (drainTxn (.writebackKeep line loc), .copy .cleaning line data)]

/-- Such an entry, a drain scanning. -/
def ended (e : Txn × Way) : State :=
  answered (draining (issued (holding e.2) e.1) { Drain.reset with st := .scanning, outstanding := 1 })
    (response 8 5 [])

theorem witness_FailsEndTransactions :
    ending.all (fun e => decide ((ended e).respCh = [response 8 5 []] ∧ (ended e).txns[(5 : Tag)] = .issued e.1 ∧
      dirWf (ended e).dir = true)) = true ∧ respKindByte (response 8 5 []) = 8 ∧
      respTagByte (response 8 5 []) = byteOf 5 ∧ (response 8 5 []).length = 4 ∧
      (ending.map fun e => (e.1.kind.fetchLoc?, e.1.kind.line?.isNone, e.1.origin == .drain)) =
        [(some loc, false, false), (none, true, false), (none, false, false), (none, false, true),
          (none, false, true), (none, false, true)] ∧
      (ending.map fun e => (ended e).wayAt loc).drop 4 = [.copy .s line data, .copy .cleaning line data] ∧
      (ending.map fun e => (ended e).drain.st) = List.replicate 6 .scanning ∧
      (ending.map fun e => ignoresSurplus e.1.kind) = [true, true, false, false, false, false] := by decide

/-- A FAIL with the 8 bytes of its row to a FAR_ATOMIC. -/
theorem witness_FailsEndTransactions_atomic :
    (let t := txn (.farAtomic line) [waiter (.atomic (.add 1))]
     let p := response 8 5 (zeros 8)
     TakesResponse (answered (issued up t) p) p [] 8 5 t ∧ p.length = 12 ∧ t.kind = .farAtomic line ∧
       t.kind.line? = none ∧ t.origin = .request ∧ dirWf (answered (issued up t) p).dir = true) := by
  unfold TakesResponse; dsimp only; and_intros <;> decide

theorem witness_ExpiriesOrphanTheirTag :
    ending.all (fun e =>
      let s := { ended e with now := 4096 }
      decide (dirWf s.dir = true ∧ s.txns[(5 : Tag)] = .issued e.1 ∧ e.1.deadline ≤ s.now)) = true ∧
      ending.all (fun e =>
        let s := { ended e with now := 4095 }
        decide (s.txns[(5 : Tag)] = .issued e.1 ∧ s.now < e.1.deadline)) = true ∧
      up.txns[(31 : Tag)] = .free ∧ (busyBut up [0]).txns[(31 : Tag)] = .orphaned := by decide

theorem witness_LateResponsesFreeTheirTag :
    (busyBut up [0]).txns[(31 : Tag)] = .orphaned ∧ 4 ≤ (response 0 31 []).length ∧
      respTagByte (response 0 31 []) = byteOf 31 := by decide

theorem witness_StrayResponsesRaiseFarProtocol :
    (∀ p ∈ [response 1 32 [], response 1 255 [], response 1 31 []],
      (answered up p).respCh = [p] ∧ 4 ≤ p.length ∧
        (32 ≤ (respTagByte p).toNat ∨ (respTagByte p = byteOf 31 ∧ up.txns[(31 : Tag)] = .free))) ∧
    (∀ e ∈ [(TxnKind.fetchS line loc, response 1 5 (zeros 63)), (.fetchX line loc, response 3 5 []),
        (.ucRead line 8, response 0 5 []), (.farAtomic line, response 9 5 (zeros 8))],
      (answered (issued up (txn e.1 [])) e.2).respCh = [e.2] ∧ respTagByte e.2 = byteOf 5 ∧
        (issued up (txn e.1 [])).txns[(5 : Tag)] = .issued (txn e.1 []) ∧
        refusesResponse e.1 (respKindByte e.2).toNat (respPayload e.2).length = true) ∧
    [(1 : Byte), 5, 0].length < 4 := by decide

/-! ### Witnesses: recalls and pins -/

theorem witness_RecallArrivalsAreChecked :
    up.farLink = .up ∧ up.recallCh = [] ∧ [(1 : Byte), 1, 0, 0, 0, 0, 0, 0, 0].length < 10 ∧
      8 ≤ { up with recallCount := 8 }.recallCount ∧ { up with recallCount := 7 }.recallCount < 8 ∧
      10 ≤ (recallPacket 0 1 line).length ∧ recallKindOf (byteAt (recallPacket 0 1 line) 0) = none ∧
      recallKindOf (byteAt (recallPacket 3 1 line) 0) = none ∧
      (recallLineOf (recallPacket 1 1 0x1000041)).toNat % 64 ≠ 0 ∧
      (∃ r ∈ (recalled up .surrender).unacknowledged, r.line = recallLineOf (recallPacket 1 1 line)) ∧
      recallKindOf (byteAt (recallPacket 2 1 line) 0) = some .surrender ∧
      (recallLineOf (recallPacket 2 1 line)).toNat % 64 = 0 ∧
      ∀ r ∈ up.unacknowledged, r.line ≠ recallLineOf (recallPacket 2 1 line) := by decide

theorem witness_RecallsReduceTheCopy :
    (let s st := recalled (holding (.copy st line data)) .surrender
     let u := issued (s .upgrade) (txn (.upgrade line loc false) [])
     [CopyState.s, .x, .m, .cleaning, .upgrade].all (fun st => decide ((s st).mode = .operating ∧
       (s st).recallQueue = [ofLine .surrender] ∧ dirWf (s st).dir = true ∧ (s st).lookup line = some loc ∧
       (s st).wayAt loc = .copy st line data ∧ (s st).activePinAt loc = none)) = true ∧
     u.fetchOf loc = some (5, txn (.upgrade line loc false) []) ∧
     (recalled (holding (.copy .upgrade line data)) .downgrade).recallQueue = [ofLine .downgrade]) := by decide

theorem witness_RecallsWithoutACopyToTake :
    (recalled { up with mode := .isolated } .downgrade).recallQueue = [ofLine .downgrade] ∧
      (recalled up .downgrade).mode = .operating ∧ (recalled up .downgrade).lookup line = none ∧
      (recalled fetching .downgrade).lookup line = some loc ∧ (recalled fetching .downgrade).activePinAt loc = none ∧
      fetching.wayAt loc = .fill line ∧
      fetching.fetchOf loc = some (5, { txn (.fetchS line loc) [waiter (.read 8)] with deadline := 0 }) ∧
      (let s := pinned (recalled (holding (.copy .x line data)) .surrender) (pin (.active loc 64 none))
       s.lookup line = some loc ∧ s.activePinAt loc = some 0 ∧
         s.pins[(0 : Fin 4)] = some (pin (.active loc 64 none))) := by decide

theorem witness_PinsEnd :
    (let r := ofLine .surrender
     let s st := pinned (holding (.copy st line data)) (pin (.active loc 64 (some r)))
     let free := asking up (command 12 [3])
     let waiting := asking (pinned up (pin (.waiting (some loc)))) (command 12 [0])
     (s .m).pins[(0 : Fin 4)] = some (pin (.active loc 64 (some r))) ∧ dirWf (s .m).dir = true ∧
       Resident (s .m) line loc .m data ∧ Resident (s .x) line loc .x data ∧ r.line = line ∧
       (∀ j : Fin 4, ∀ w ∈ (s .m).pins[j], w.activeAt loc = true → j = 0) ∧
       64 ≤ { s .m with now := 64 }.now ∧ { s .m with now := 63 }.now < 64 ∧
       Commands (asking (s .m) (command 12 [0])) (command 12 [0]) 12 ∧ slotByte (command 12 [0]) = 0 ∧
       Commands (asking up (command 12 [4])) (command 12 [4]) 12 ∧ 4 ≤ slotByte (command 12 [4]) ∧
       Commands free (command 12 [3]) 12 ∧ slotByte (command 12 [3]) = 3 ∧
       (∀ w ∈ free.pins[(3 : Fin 4)], w.isActive = false) ∧ Commands waiting (command 12 [0]) 12 ∧
       (∀ w ∈ waiting.pins[(0 : Fin 4)], w.isActive = false) ∧
       (∀ v ∈ waiting.pins[(0 : Fin 4)], ∀ d ∈ Pin.deadline? v, waiting.now < d) ∧
       ∀ v ∈ { s .m with now := 63 }.pins[(0 : Fin 4)], ∀ d ∈ Pin.deadline? v, 63 < d) := by
  unfold Commands TakesCommand FromManager Resident; dsimp only; and_intros <;> decide

/-! ### Witnesses: the drain engine and management -/

theorem witness_DrainVisitsActOnTheWay :
    (let scan := { Drain.reset with st := .scanning, cursorSet := 1 }
     let s w := draining (holding w) scan
     let last := draining up { scan with cursorSet := 1023, cursorWay := 3 }
     (s (.fill line)).drain.st = .scanning ∧ (s (.fill line)).drain.waiting = false ∧
       (s (.fill line)).drain.cursorSet = loc.set.val ∧ (s (.fill line)).drain.cursorWay = loc.way ∧
       dirWf (s (.fill line)).dir = true ∧ ((s (.fill line)).wayAt loc).isBusy = true ∧
       (pinned (s (.copy .x line data)) (pin (.active loc 64 none))).activePinAt loc ≠ none ∧
       (s (.copy .x line data)).activePinAt loc = none ∧
       (s (.copy .s line data)).wayAt loc = .copy .s line data ∧
       (s (.copy .m line data)).wayAt loc = .copy .m line data ∧ (s (.copy .m line data)).drain.mode = .keep ∧
       (busyBut (s (.copy .m line data)) [31]).freeTag = some 31 ∧
       (busyBut (s (.copy .m line data)) []).freeTag = none ∧ (s (.copy .m line data)).freeSlot = some 0 ∧
       last.drain.cursorSet = (1023 : Fin 1024).val ∧ last.wayAt { set := 1023, way := 3 } = .i) := by decide

theorem witness_DrainsStartAndAbort :
    (let s d p := asking (draining up d) p
     let idle := Drain.reset
     let scan n := { Drain.reset with st := .scanning, outstanding := n }
     let fin := { Drain.reset with st := .finishing, outstanding := 1 }
     Commands (s fin (command 6 [1])) (command 6 [1]) 6 ∧ (s fin (command 6 [1])).drain.st ≠ .idle ∧
       Commands (s idle (command 6 [0])) (command 6 [0]) 6 ∧ (s idle (command 6 [0])).drain.st = .idle ∧
       byteAt (payloadOf (command 6 [0])) 0 ≠ 1 ∧ byteAt (payloadOf (command 6 [3])) 0 ≠ 2 ∧
       byteAt (payloadOf (command 6 [2])) 0 = DrainMode.code .drop ∧
       Commands (s idle (command 8 [])) (command 8 []) 8 ∧ Commands (s fin (command 8 [])) (command 8 []) 8 ∧
       (s fin (command 8 [])).drain.st = .finishing ∧ (s (scan 1) (command 8 [])).drain.st = .scanning ∧
       0 < (s (scan 1) (command 8 [])).drain.outstanding ∧ (s (scan 0) (command 8 [])).drain.outstanding = 0) := by
  unfold Commands TakesCommand FromManager; dsimp only; and_intros <;> decide

theorem witness_OnlyManagersCommand :
    (let p := packet 6 15 9 0 0 14 0 0 []
     let s := asking up p
     s.nearLink = .up ∧ s.ingress = [p] ∧ kindByte p = mgmtCode ∧ commandWellFormed p = true ∧
       ¬ FromManager s p) := by
  unfold FromManager; dsimp only; and_intros <;> decide

theorem witness_EntriesAreReadAndWritten :
    (let read t i := command 1 [t, i]
     let write t i e := command 2 ([t, i] ++ e)
     let w : WindowEntry := window 0 38 .uc
     Commands (asking up (read 1 31)) (read 1 31) 1 ∧ tableByte (read 1 31) = 1 ∧
       indexByte (read 1 31) = (31 : Fin 32).val ∧ indexByte (read 2 7) = (7 : Fin 8).val ∧
       tableByte (read 3 0) = 3 ∧ indexByte (read 3 0) = 0 ∧
       Commands (asking up (write 1 0 w.bytes)) (write 1 0 w.bytes) 2 ∧
       windowOf (entryBytes (write 1 0 w.bytes)) = some w ∧
       watchOf (entryBytes (write 2 0 WatchEntry.reset.bytes)) = some WatchEntry.reset ∧
       configOf (entryBytes (write 3 0 ConfigRecord.reset.bytes)) = some ConfigRecord.reset ∧
       (byteAt (entryBytes (write 1 0 { w with exponent := 39 }.bytes)) 1).toNat = 39 ∧
       (byteAt (entryBytes (write 2 0 { WatchEntry.reset with exponent := 13 }.bytes)) 1).toNat = 13 ∧
       fieldAt (entryBytes (write 3 0 { ConfigRecord.reset with pinTimeout := 1024 }.bytes)) 4 2 = 1024 ∧
       tableByte (read 0 0) = 0 ∧ (tableByte (read 4 0)).toNat = 4 ∧ indexByte (read 1 32) = 32 ∧
       indexByte (read 2 8) = 8 ∧ indexByte (read 3 1) = 1) := by
  unfold Commands TakesCommand FromManager; dsimp only; and_intros <;> decide

theorem witness_TableEntriesRoundTrip :
    WindowForm (window 0 38 .uc) ∧ WindowForm (window 0xFFFFFFFFF000 12 .uc) ∧ WatchForm WatchEntry.reset ∧
      WatchForm { WatchEntry.reset with base := 0x1000, exponent := 12, hits := 4294967295 } ∧
      ConfigForm { ConfigRecord.reset with farTimeout := 65535, pinTimeout := 1023 } := by
  unfold WindowForm WatchForm ConfigForm; dsimp only; and_intros <;> decide

theorem witness_InspectionsReportTheState :
    (let a := addrBytes 0x100007F
     Commands (asking up (command 3 [])) (command 3 []) 3 ∧ Commands (asking up (command 4 a)) (command 4 a) 4 ∧
       lineOf (addrAt (payloadOf (command 4 a)) 0) = line ∧
       Commands (asking up (command 5 [])) (command 5 []) 5) := by
  unfold Commands TakesCommand FromManager; dsimp only; and_intros <;> decide

theorem witness_CapturesAndHoldsAreServed :
    (let s : State := { holding (.copy .s line data) with captures := [capture 65535],
                                                          holds := upd up.holds 3 (some qRead) }
     let at_ c n := asking s (command c [n])
     let denied : Request := { qRead with addr := 0x4000000 }
     Commands (asking s (command 9 [])) (command 9 []) 9 ∧ s.captures = [capture 65535] ∧ up.captures = [] ∧
       Commands (at_ 10 4) (command 10 [4]) 10 ∧ 4 ≤ slotByte (command 10 [4]) ∧
       Commands (at_ 11 0) (command 11 [0]) 11 ∧ slotByte (command 11 [0]) = (0 : Fin 4).val ∧
       s.holds[(0 : Fin 4)] = none ∧ slotByte (command 10 [3]) = (3 : Fin 4).val ∧
       s.holds[(3 : Fin 4)] = some qRead ∧ s.mode = .operating ∧ ReachesDirectory s qRead ∧
       Unobstructed s qRead ∧ dirWf s.dir = true ∧ Resident s (lineOf qRead.addr) loc .s data ∧
       s.exempt denied = false ∧ (s.treatmentOf denied.addr).policy = .deny) := by
  unfold Commands TakesCommand FromManager ReachesDirectory Unobstructed Resident; dsimp only; and_intros <;> decide

/-! ### Witnesses: notices, links and resets -/

theorem witness_NoticesAreDelivered :
    (let n : Notice := { kind := .hold, detail := {}, count := 255 }
     let s : State := { up with notices := [n], egress := [.credit 15] }
     s.nearLink = .up ∧ s.noticeInterval = none ∧ s.notices = [n] ∧ State.reset.nearLink = .down ∧
       { s with noticeInterval := some 8, now := 8 }.noticeInterval = some 8 ∧
       { s with noticeInterval := some 8, now := 7 }.now < 8 ∧ up.notices = [] ∧ s.egress = [.credit 15]) := by
  decide

theorem witness_TrafficResetAbandonsTraffic :
    Coherent fetching ∧ Commands fetching (command 13 []) 13 :=
  ⟨coherent_fetching, by unfold Commands TakesCommand FromManager; decide⟩

/-- An ACTIVE pin on an M line, with a deferred recall. -/
def deferring : State :=
  { pinned (holding (.copy .m line data)) (pin (.active loc 64 (some (ofLine .downgrade)))) with recallCount := 1 }

/-- The ways of `deferring`: every one I but way 0 of set 1. -/
theorem deferring_ways (l : Loc) : deferring.wayAt l = if l = loc then .copy .m line data else .i := by
  obtain ⟨i, w⟩ := l
  by_cases h : i = 1
  · subst h; revert w; decide
  · have e : deferring.wayAt ⟨i, w⟩ = DirSet.reset.ways[w] := by
      have : readSet deferring.dir i = DirSet.reset := by
        show (if (1 : Fin 1024) = i then _ else DirSet.reset) = _
        rw [if_neg (Ne.symm h)]
      simp [State.wayAt, this]
    have n : (⟨i, w⟩ : Loc) ≠ loc := fun k => h (congrArg Loc.set k)
    have z : ∀ v : Fin 4, DirSet.reset.ways[v] = .i := by decide
    rw [e, if_neg n, z]

/-- The line that a way of the one listed set of `deferring` holds. -/
theorem deferring_lines {e : Fin 1024 × DirSet} (he : e ∈ deferring.dir) {w : Fin 4} {x : Addr}
    (hx : x ∈ (e.2.ways[w]).line?) : e.1 = 1 ∧ w = 0 ∧ x = line := by
  obtain rfl : e = (1, { ways := upd DirSet.reset.ways 0 (.copy .m line data), lru := [1, 0, 2, 3] }) := by
    simpa [deferring, pinned, holding] using he
  have z : ∀ v : Fin 4, (upd DirSet.reset.ways 0 (.copy .m line data))[v] =
      if v = 0 then .copy .m line data else .i := by
    decide
  simp only at hx
  rw [z] at hx
  split at hx
  · next h => cases hx; exact ⟨rfl, h, rfl⟩
  · cases hx

/-- No entry of `deferring` is ISSUED. -/
theorem deferring_txn {g : Tag} {t : Txn} : t ∉ TxnEntry.txn? deferring.txns[g] := by
  have : ∀ g : Tag, deferring.txns[g] = .free := by decide
  rw [this]
  rintro ⟨⟩

/-- The one pin record of `deferring`. -/
theorem deferring_pin {i : Fin 4} {p : Pin} (h : p ∈ deferring.pins[i]) :
    i = 0 ∧ p = pin (.active loc 64 (some (ofLine .downgrade))) := by
  have z : ∀ i : Fin 4, deferring.pins[i] =
      if i = 0 then some (pin (.active loc 64 (some (ofLine .downgrade)))) else none := by decide
  rw [z] at h
  split at h
  · next e => cases h; exact ⟨e, rfl⟩
  · cases h

/-- A coherent state in which an ACTIVE pin holds a deferred recall. -/
theorem coherent_deferring : Coherent deferring where
  form := by decide
  inSet := by
    intro e he w x hx
    obtain ⟨h1, -, rfl⟩ := deferring_lines he hx
    rw [h1]
    decide
  oneWay := by
    intro e he v w x hx hy
    rw [(deferring_lines he hx).2.1, (deferring_lines he hy).2.1]
  oneBuffer := by
    have : ∀ i : Fin 4, deferring.eb[i] = none := by decide
    intro i v hv; rw [this] at hv; cases hv
  bufferOwned := by
    have : ∀ i : Fin 4, deferring.eb[i] = none := by decide
    intro i v hv; rw [this] at hv; cases hv
  dropBuffered := fun _ _ ht => absurd ht deferring_txn
  onePerLine := fun _ _ _ ht => absurd ht deferring_txn
  kindInSet := fun _ _ ht => absurd ht deferring_txn
  entryHasWay := fun _ _ ht => absurd ht deferring_txn
  wayHasEntry := by
    intro l hl
    rw [deferring_ways] at hl
    split at hl <;> cases hl
  cleaningHasEntry := by
    intro l x hx
    rw [deferring_ways] at hx
    split at hx <;> cases hx
  keepState := fun _ _ ht => absurd ht deferring_txn
  onePin := by
    intro i j p hp q hq _
    rw [(deferring_pin hp).1, (deferring_pin hq).1]
  activeHolds := by
    intro i p hp l d r hst
    obtain ⟨-, rfl⟩ := deferring_pin hp
    cases hst
    exact ⟨by rw [deferring_ways]; decide, by decide⟩
  oneActive := by
    intro i j p hp q hq _ _ _
    rw [(deferring_pin hp).1, (deferring_pin hq).1]
  waitingListed := by
    intro i p hp l hst
    obtain ⟨-, rfl⟩ := deferring_pin hp
    cases hst
  listedWaits := fun _ _ ht => absurd ht deferring_txn
  listBounded := fun _ _ ht => absurd ht deferring_txn
  recallsCounted := by decide
  oneRecall := by decide
  notedInFill := fun _ _ ht => absurd ht deferring_txn

/-- R102, R111: a coherent state with a deferred recall, the way that holds it, and what its acknowledgement says. -/
theorem witness_LinkReportsAndReattach_deferred :
    Coherent deferring ∧ deferring.nearLink = .up ∧
      deferring.pins[(0 : Fin 4)] = some (pin (.active loc 64 (some (ofLine .downgrade)))) ∧
      defersAt loc (ofLine .downgrade) (pin (.active loc 64 (some (ofLine .downgrade)))) ∧
      deferring.wayAt loc = .copy .m line data ∧ deferredAcks deferring = [{ id := 1, status := .dirty data }] :=
  ⟨coherent_deferring, rfl, rfl, ⟨64, rfl⟩, rfl, by decide⟩

theorem witness_LinkReportsAndReattach :
    State.reset.nearLink = .down ∧ State.reset.farLink = .down ∧ fetching.nearLink = .up ∧
      fetching.deferredRecalls = [] ∧ fetching.farLink = .up ∧ dirWf fetching.dir = true ∧
      Commands (asking up (command 14 [])) (command 14 []) 14 ∧
      Commands (asking { up with farLink := .down, mode := .isolated } (command 14 [])) (command 14 []) 14 := by
  unfold Commands TakesCommand FromManager; dsimp only; and_intros <;> decide

end Sys2Proof.Tests
end

section
/-! SUPPORT. What a command may do to the ports: the state of the requester port behind which it works, and the three
paths on which it produces packets (R6, R15, R62). -/

namespace Sys2Proof.Machine

open Sys2Proof.Safety

/-! ### Work that only produces packets -/

/-- Packets are only appended to the egress, the request channel and the ack channel. -/
structure Produces (s t : State) : Prop where
  egress : s.egress <+: t.egress
  reqCh : s.reqCh <+: t.reqCh
  ackCh : s.ackCh <+: t.ackCh

/-- Besides, the requester port is as it was: link, queue, credits and interval stand, and while the link is DOWN
nothing is produced on it (R15). -/
structure KeepsPort (s t : State) : Prop extends Produces s t where
  nearLink : t.nearLink = s.nearLink
  ingress : t.ingress = s.ingress
  credits : t.credits = s.credits
  noticeInterval : t.noticeInterval = s.noticeInterval
  silent : s.nearLink = .down → t.egress = s.egress

/-- Besides, the links, the mode, the tables, the watch unit, the time and the model's own records stand: work on the
directory, the transactions, the eviction buffer, the recalls, the pins, the drain and the notices alone. -/
structure Within (s t : State) : Prop extends KeepsPort s t where
  farLink : t.farLink = s.farLink
  mode : t.mode = s.mode
  windows : t.windows = s.windows
  config : t.config = s.config
  watch : t.watch = s.watch
  holds : t.holds = s.holds
  captures : t.captures = s.captures
  nextSeq : t.nextSeq = s.nextSeq
  now : t.now = s.now
  wireNear : t.wireNear = s.wireNear
  wireRequest : t.wireRequest = s.wireRequest
  wireAck : t.wireAck = s.wireAck
  pending : t.pending = s.pending

theorem Produces.refl (s : State) : Produces s s := ⟨List.prefix_rfl, List.prefix_rfl, List.prefix_rfl⟩

theorem Produces.trans {s t u : State} (h : Produces s t) (k : Produces t u) : Produces s u :=
  ⟨h.egress.trans k.egress, h.reqCh.trans k.reqCh, h.ackCh.trans k.ackCh⟩

theorem KeepsPort.refl (s : State) : KeepsPort s s := ⟨.refl s, rfl, rfl, rfl, rfl, fun _ => rfl⟩

theorem KeepsPort.trans {s t u : State} (h : KeepsPort s t) (k : KeepsPort t u) : KeepsPort s u :=
  ⟨h.toProduces.trans k.toProduces, k.nearLink.trans h.nearLink, k.ingress.trans h.ingress,
    k.credits.trans h.credits, k.noticeInterval.trans h.noticeInterval,
    fun hd => (k.silent (h.nearLink.trans hd)).trans (h.silent hd)⟩

theorem Within.refl (s : State) : Within s s :=
  ⟨.refl s, rfl, rfl, rfl, rfl, rfl, rfl, rfl, rfl, rfl, rfl, rfl, rfl, rfl⟩

theorem Within.trans {s t u : State} (h : Within s t) (k : Within t u) : Within s u :=
  ⟨h.toKeepsPort.trans k.toKeepsPort, k.farLink.trans h.farLink, k.mode.trans h.mode,
    k.windows.trans h.windows, k.config.trans h.config, k.watch.trans h.watch, k.holds.trans h.holds,
    k.captures.trans h.captures, k.nextSeq.trans h.nextSeq, k.now.trans h.now, k.wireNear.trans h.wireNear,
    k.wireRequest.trans h.wireRequest, k.wireAck.trans h.wireAck, k.pending.trans h.pending⟩

/-- A step at a time over a list. -/
theorem Within.foldl {α : Type} {f : State → α → State} (h : ∀ s a, Within s (f s a)) (l : List α) (s : State) :
    Within s (l.foldl f s) := by
  induction l generalizing s with
  | nil => exact .refl s
  | cons a l ih => exact (h s a).trans (ih _)

/-! ### The state's own updates -/

section updates

variable (s : State)

/-- The blocks behind the ports may come to hold anything. -/
theorem within_blocks (dir : List (Fin 1024 × DirSet)) (txns : Vector TxnEntry 32)
    (eb : Vector (Option EvictionEntry) 4) (respCh recallCh : List Packet) (recallQueue : List RecallRecord)
    (recallCount : Nat) (pins : Vector (Option Pin) 4) (drain : Drain) (notices : List Notice) :
    Within s { s with dir := dir, txns := txns, eb := eb, respCh := respCh, recallCh := recallCh
                      recallQueue := recallQueue, recallCount := recallCount, pins := pins, drain := drain
                      notices := notices } :=
  ⟨⟨⟨List.prefix_rfl, List.prefix_rfl, List.prefix_rfl⟩, rfl, rfl, rfl, rfl, fun _ => rfl⟩,
    rfl, rfl, rfl, rfl, rfl, rfl, rfl, rfl, rfl, rfl, rfl, rfl, rfl⟩

/-- Packets are produced for the requester port (R15). -/
theorem within_egressAfter (l : List NearPacket) : Within s { s with egress := egressAfter s l } := by
  have he : s.egress <+: egressAfter s l := by unfold egressAfter; split <;> simp
  have hs : s.nearLink = .down → egressAfter s l = s.egress := fun hd => by simp [egressAfter, hd]
  exact ⟨⟨⟨he, List.prefix_rfl, List.prefix_rfl⟩, rfl, rfl, rfl, rfl, hs⟩,
    rfl, rfl, rfl, rfl, rfl, rfl, rfl, rfl, rfl, rfl, rfl, rfl, rfl⟩

/-- Far requests are produced (R62). -/
theorem within_reqChAfter (l : List FarRequest) : Within s { s with reqCh := reqChAfter s l } := by
  have hr : s.reqCh <+: reqChAfter s l := by unfold reqChAfter; split <;> simp
  exact ⟨⟨⟨List.prefix_rfl, hr, List.prefix_rfl⟩, rfl, rfl, rfl, rfl, fun _ => rfl⟩,
    rfl, rfl, rfl, rfl, rfl, rfl, rfl, rfl, rfl, rfl, rfl, rfl, rfl⟩

/-- Acknowledgements are produced (R62, R91). -/
theorem within_ackChAfter (l : List RecallAck) : Within s { s with ackCh := ackChAfter s l } := by
  have ha : s.ackCh <+: ackChAfter s l := by unfold ackChAfter; split <;> simp
  exact ⟨⟨⟨List.prefix_rfl, List.prefix_rfl, ha⟩, rfl, rfl, rfl, rfl, fun _ => rfl⟩,
    rfl, rfl, rfl, rfl, rfl, rfl, rfl, rfl, rfl, rfl, rfl, rfl, rfl⟩

theorem within_putWay (l : Loc) (w : Way) : Within s (s.putWay l w) := within_blocks s ..
theorem within_touch (l : Loc) : Within s (s.touch l) := within_blocks s ..
theorem within_putEntry (g : Tag) (e : TxnEntry) : Within s (s.putEntry g e) := within_blocks s ..
theorem within_releaseTag (g : Tag) : Within s (s.releaseTag g) := within_blocks s ..
theorem within_releaseSlot (i : Fin 4) : Within s (s.releaseSlot i) := within_blocks s ..
theorem within_putPin (i : Fin 4) (p : Option Pin) : Within s (s.putPin i p) := within_blocks s ..
theorem within_raise (k : NoticeKind) (d : NoticeDetail) : Within s (s.raise k d) := within_blocks s ..
theorem within_emit (p : NearPacket) : Within s (s.emit p) := within_egressAfter s [p]

theorem within_answer (q : Request) (st : RespStatus) (data : List Byte) : Within s (s.answer q st data) :=
  within_emit s _

theorem within_answerWaiter (w : Waiter) (st : RespStatus) (data : List Byte) :
    Within s (s.answerWaiter w st data) := within_emit s _

theorem within_answerPacket (p : Packet) (st : RespStatus) : Within s (s.answerPacket p st) := within_emit s _

theorem within_reply (p : Packet) (st : MgmtStatus) (f : ReplyFields) : Within s (s.reply p st f) :=
  within_emit s _

theorem within_sendAck (id : Byte) (st : AckStatus) : Within s (s.sendAck id st) := within_ackChAfter s _

theorem within_ackRecall (id : Byte) (st : AckStatus) : Within s (s.ackRecall id st) :=
  (within_sendAck s id st).trans (within_blocks _ ..)

theorem within_issue (g : Tag) (k : TxnKind) (ws : List Waiter) (n : Option RecallRecord) (o : Origin)
    (r : FarRequest) : Within s (s.issue g k ws n o r) :=
  (within_putEntry s g _).trans (within_reqChAfter _ [r])

theorem within_evict (l : Loc) (x : Addr) (data : LineData) (i : Fin 4) (g : Tag) (why : EvictionOrigin)
    (o : Origin) : Within s (s.evict l x data i g why o) :=
  ((within_putWay s l .i).trans (within_blocks _ ..)).trans (within_issue _ ..)

end updates

/-! ### Waiters, recalls and pins -/

section blocks

variable (s : State) (w : Waiter) (l : Loc) (x : Addr) (data : LineData) (r : RecallRecord)

theorem within_freeWaiterPin : Within s (s.freeWaiterPin w) := by
  rw [freeWaiterPin_eq]; exact within_blocks s ..

theorem within_refuse : Within s (s.refuse w) :=
  (within_freeWaiterPin s w).trans (within_answerWaiter _ ..)

theorem within_answerAll (ws : List Waiter) (st : RespStatus) : Within s (s.answerAll ws st) :=
  .foldl (fun s w => (within_freeWaiterPin s w).trans (within_answerWaiter _ ..)) ws s

theorem within_recordWay : Within s (s.recordWay w l) := by
  unfold State.recordWay
  split
  · split
    · exact within_putPin s ..
    · exact .refl s
  · exact .refl s

theorem within_noteRecall : Within s (s.noteRecall l r) := by
  unfold State.noteRecall
  split
  · exact within_putEntry s ..
  · exact .refl s

theorem within_markCopyLost : Within s (s.markCopyLost l) := by
  unfold State.markCopyLost
  split
  · split
    · exact within_putEntry s ..
    · exact .refl s
  · exact .refl s

theorem within_deferRecall (i : Fin 4) : Within s (s.deferRecall i r) := by
  unfold State.deferRecall
  split
  · split
    · exact within_putPin s ..
    · exact .refl s
  · exact .refl s

theorem within_recallCopy (st : CopyState) : Within s (s.recallCopy l r st x data) := by
  cases st with
  | upgrade =>
    simp only [State.recallCopy]
    split
    · exact within_ackRecall s ..
    · exact ((within_putWay s ..).trans (within_markCopyLost ..)).trans (within_ackRecall ..)
  | _ => exact (within_putWay s ..).trans (within_ackRecall ..)

theorem within_applyRecall : Within s (s.applyRecall r) := by
  unfold State.applyRecall
  split
  · split
    · exact within_deferRecall s ..
    · split
      · exact .refl s
      · exact within_noteRecall s ..
      · exact within_recallCopy s ..
  · split <;> exact within_ackRecall s ..

theorem within_applyHeldRecall (o : Option RecallRecord) : Within s (s.applyHeldRecall o) := by
  cases o
  · exact .refl s
  · exact within_applyRecall s _

theorem within_dropNoted (o : Option RecallRecord) : Within s (s.dropNoted o) := by
  cases o
  · exact .refl s
  · exact within_ackRecall s ..

theorem within_takeRecall (k : RecallKind) : Within s (s.takeRecall k) := by
  unfold State.takeRecall
  split
  · split
    · dsimp only
      split
      · exact (within_blocks s ..).trans (within_ackRecall ..)
      · exact (within_blocks s ..).trans (within_applyRecall ..)
    · exact .refl s
  · exact .refl s

theorem within_checkRecall (p : Packet) : Within s (s.checkRecall p) := by
  unfold State.checkRecall
  dsimp only
  split
  · exact within_raise s ..
  · split
    · exact (within_sendAck s ..).trans (within_raise ..)
    · split
      · exact (within_sendAck s ..).trans (within_raise ..)
      · split
        · exact (within_sendAck s ..).trans (within_raise ..)
        · exact within_blocks s ..

theorem within_examineRecall (p : Packet) : Within s (s.examineRecall p) := by
  unfold State.examineRecall
  split
  · exact within_raise s ..
  · exact within_checkRecall s p

theorem within_examineRecalls : Within s s.examineRecalls :=
  (within_blocks s ..).trans (.foldl within_examineRecall ..)

theorem within_activatePin (i : Fin 4) (len : Nat) : Within s (s.activatePin i l w data len) :=
  ((within_putPin s ..).trans (within_touch ..)).trans (within_answerWaiter ..)

theorem within_endPin (i : Fin 4) (o : Option RecallRecord) : Within s (s.endPin i o) :=
  (within_putPin s ..).trans (within_applyHeldRecall ..)

theorem within_performUnlock (q : Request) (i : Fin 4) (mask : List Bool) (bytes : List Byte) :
    Within s (s.performUnlock q i mask bytes) := by
  unfold State.performUnlock
  split
  · split
    · refine ((Within.trans ?_ (within_putPin ..)).trans (within_answer ..)).trans (within_applyHeldRecall ..)
      split
      · exact within_putWay s ..
      · exact .refl s
    · exact .refl s
  · exact .refl s

theorem within_unlockStep (q : Request) (mask : List Bool) (bytes : List Byte) :
    Within s (s.unlockStep q mask bytes) := by
  unfold State.unlockStep
  split
  · exact within_performUnlock s ..
  · exact within_answer s ..

theorem within_expirePin (i : Fin 4) : Within s (s.expirePin i) := by
  unfold State.expirePin
  split
  · split
    · split
      · exact (within_endPin s ..).trans (within_raise ..)
      · exact .refl s
    · exact .refl s
  · exact .refl s

/-! ### Requests at the directory and at copy removal -/

theorem within_joinList : Within s (s.joinList w l) := by
  unfold State.joinList
  split
  · split
    · exact within_refuse s w
    · exact (within_putEntry s ..).trans (within_recordWay ..)
  · exact within_refuse s w

theorem within_issueUpgrade : Within s (s.issueUpgrade w l x data) := by
  unfold State.issueUpgrade
  split
  · exact ((within_putWay s ..).trans (within_issue ..)).trans (within_recordWay ..)
  · exact within_refuse s w

theorem within_perform : Within s (s.perform w l x data) := by
  unfold State.perform
  split
  · exact within_answerWaiter s ..
  · exact (within_putWay s ..).trans (within_answerWaiter ..)
  · exact (within_putWay s ..).trans (within_answerWaiter ..)
  · exact within_activatePin s ..

theorem within_resident : Within s (s.resident w l) := by
  have hp (data) (x) : Within s ((s.touch l).perform w l x data) := (within_touch s l).trans (within_perform ..)
  unfold State.resident
  split
  · exact .refl s
  · exact within_joinList s w l
  · split
    · split
      · exact within_joinList s w l
      · exact hp ..
    · exact hp ..
    · exact hp ..
    · exact hp ..
    · exact within_issueUpgrade s ..
    · exact within_joinList s w l
    · exact within_refuse s w

theorem within_fetch (g : Tag) : Within s (s.fetch w x l g) := by
  unfold State.fetch
  split <;> exact within_issue s ..

theorem within_allocate (g : Tag) : Within s (s.allocate w x l g) :=
  (((within_putWay s ..).trans (within_touch ..)).trans (within_fetch ..)).trans (within_recordWay ..)

theorem within_miss : Within s (s.miss w x) := by
  unfold State.miss
  split
  · exact within_refuse s w
  · split
    · split
      · dsimp only
        split
        · exact (within_evict s ..).trans (within_allocate ..)
        · exact within_refuse s w
      · exact within_refuse s w
    · split
      · exact within_allocate s ..
      · exact within_refuse s w

theorem within_directory : Within s (s.directory w x) := by
  unfold State.directory
  split
  · exact within_refuse s w
  · split
    · exact within_refuse s w
    · split
      · split
        · exact within_refuse s w
        · exact within_miss s w x
      · split
        · exact within_refuse s w
        · exact within_resident s w _

theorem within_issueUncached (q : Request) (g : Tag) : Within s (s.issueUncached q w g) := by
  unfold State.issueUncached
  split
  · exact within_issue s ..
  · exact within_issue s ..
  · exact within_issue s ..
  · exact .refl s

theorem within_removeCopy (q : Request) : Within s (s.removeCopy q w) := by
  have ha := within_answer s q .retry []
  unfold State.removeCopy
  dsimp only
  split
  · exact ha
  · split
    · split
      · split
        · exact ha
        · split
          · exact (within_evict s ..).trans (within_answer ..)
          · exact ha
      · split
        · exact ha
        · split
          · exact ha
          · split
            · exact (within_putWay s ..).trans (within_issueUncached ..)
            · exact ha
    · split
      · exact ha
      · split
        · exact within_issueUncached s ..
        · exact ha

theorem within_lockStep (q : Request) (len : Nat) : Within s (s.lockStep q len) := by
  unfold State.lockStep
  split
  · exact within_answer s ..
  · split
    · exact within_answer s ..
    · exact (within_putPin s ..).trans (within_directory ..)

theorem within_pastWindow (q : Request) : Within s (s.pastWindow q) := by
  unfold State.pastWindow
  split
  · exact within_directory s ..
  · exact within_directory s ..
  · exact within_directory s ..
  · exact within_lockStep s ..
  · exact within_unlockStep s ..

theorem within_windowCheck (q : Request) : Within s (s.windowCheck q) := by
  unfold State.windowCheck
  dsimp only
  split
  · exact within_pastWindow s q
  · split
    · exact within_answer s ..
    · split
      · exact within_answer s ..
      · split
        · exact within_answer s ..
        · split
          · split
            · exact within_removeCopy s ..
            · exact .refl s
          · exact within_pastWindow s q

theorem within_admitFromMode (q : Request) : Within s (s.admitFromMode q) := by
  unfold State.admitFromMode
  split
  · exact within_answer s ..
  · exact within_windowCheck s q

/-! ### The drain engine -/

theorem within_replyDrain (st : MgmtStatus) : Within s (s.replyDrain st) := by
  rw [replyDrain_eq]; exact within_egressAfter s _

theorem within_completeDrain : Within s s.completeDrain :=
  (within_replyDrain s _).trans (within_blocks _ ..)

theorem within_endScan : Within s s.endScan := by
  rw [endScan_eq]
  split
  · exact within_blocks s ..
  · exact within_completeDrain s

theorem within_stopDrain (st : MgmtStatus) : Within s (s.stopDrain st) := by
  rw [stopDrain_eq]
  exact (within_egressAfter s _).trans (within_blocks _ ..)

theorem within_advanceCursor : Within s s.advanceCursor := by
  unfold State.advanceCursor
  dsimp only
  split
  · exact within_blocks s ..
  · split
    · exact within_blocks s ..
    · exact (within_blocks s ..).trans (within_endScan _)

theorem within_visitKeep : Within s (s.visitKeep l x data) := by
  unfold State.visitKeep
  split
  · exact (((within_putWay s ..).trans (within_issue ..)).trans (within_blocks _ ..)).trans
      (within_advanceCursor _)
  · exact within_blocks s ..

theorem within_visitDrop : Within s (s.visitDrop l x data) := by
  unfold State.visitDrop
  split
  · exact ((within_evict s ..).trans (within_blocks _ ..)).trans (within_advanceCursor _)
  · exact within_blocks s ..

theorem within_visitClean : Within s (s.visitClean l) :=
  ((within_putWay s ..).trans (within_blocks _ ..)).trans (within_advanceCursor _)

theorem within_visitPinned : Within s s.visitPinned :=
  (within_blocks s ..).trans (within_advanceCursor _)

theorem within_visitWay : Within s (s.visitWay l) := by
  unfold State.visitWay
  split
  · exact within_visitPinned s
  · split
    · exact within_visitKeep s ..
    · exact within_visitDrop s ..
    · exact within_visitClean s l
    · exact within_visitClean s l
    · exact within_advanceCursor s

theorem within_visit : Within s s.visit := by
  unfold State.visit
  split
  · split
    · exact within_visitWay s _
    · exact .refl s
  · exact .refl s

theorem within_reportEnd (t : Txn) (b : Bool) : Within s (s.reportEnd t b) := by
  rw [reportEnd_eq]
  exact (within_egressAfter s _).trans (within_blocks _ ..)

/-! ### Far responses and expiries -/

theorem within_install (st : CopyState) : Within s (s.install l st x data) :=
  (within_putWay s ..).trans (within_touch ..)

theorem within_walkOne {o o' : Option Requester} {t : State} (h : s.walkOne l o w = some (t, o')) : Within s t := by
  have hp (x data) := within_perform s w l x data
  unfold State.walkOne at h
  split at h
  · cases h; exact within_refuse s w
  · split at h
    · split at h
      · cases h; exact hp ..
      · split at h <;> cases h; exact hp ..
      · split at h <;> cases h; exact hp ..
    · cases h

theorem within_walk (ws : List Waiter) (o : Option Requester) : Within s (State.walk l ws o s).1 := by
  induction ws generalizing s o with
  | nil => exact .refl s
  | cons w ws ih =>
    rw [walk_cons]
    split
    · next h => exact (within_walkOne s w l h).trans (ih ..)
    · exact .refl s

theorem within_stopWalk (g : Tag) (t : Txn) (ws : List Waiter) : Within s (s.stopWalk g t x l ws) := by
  unfold State.stopWalk
  refine Within.trans ?_ (within_issue ..)
  split
  · exact within_putWay s ..
  · exact .refl s

theorem within_walkAndFinish (g : Tag) (t : Txn) : Within s (s.walkAndFinish g t x l) := by
  have hw := within_walk s l t.waiters none
  unfold State.walkAndFinish
  split
  · next h => rw [h] at hw; exact (hw.trans (within_releaseTag ..)).trans (within_applyHeldRecall ..)
  · next h => rw [h] at hw; exact (hw.trans (within_stopWalk ..)).trans (within_applyHeldRecall ..)

theorem within_endKeep (after : CopyState) : Within s (s.endKeep x l after) := by
  unfold State.endKeep
  split
  · split
    · exact within_putWay s ..
    · exact .refl s
  · exact .refl s

theorem within_abandon (t : Txn) (st : RespStatus) : Within s (s.abandon t st) := by
  have hf (l : Loc) : Within s (((s.answerAll t.waiters st).putWay l .i).dropNoted t.noted) :=
    ((within_answerAll s ..).trans (within_putWay ..)).trans (within_dropNoted ..)
  unfold State.abandon
  split
  · exact hf _
  · exact hf _
  · exact hf _
  · exact within_releaseSlot s _
  · exact within_endKeep s ..
  · exact within_answerAll s ..
  · exact within_answerAll s ..
  · exact within_answerAll s ..

theorem within_completeUncached (g : Tag) (t : Txn) (bytes : List Byte) :
    Within s (s.completeUncached g t bytes) :=
  (Within.foldl (fun s w => within_answerWaiter s w .ok bytes) ..).trans (within_releaseTag ..)

theorem within_expireTxn (g : Tag) : Within s (s.expireTxn g) := by
  unfold State.expireTxn
  split
  · split
    · exact (((within_raise s ..).trans (within_abandon ..)).trans (within_putEntry ..)).trans
        (within_reportEnd ..)
    · exact .refl s
  · exact .refl s

end blocks

/-! ### The responses, by their kind -/

/-- What a response does to the entry that it fits is work within the part. -/
def AppliesWithin (f : State → Tag → Txn → List Byte → Option State) : Prop :=
  ∀ s g t payload u, f s g t payload = some u → Within s u

theorem within_installed (s : State) (l : Loc) (st : CopyState) (x : Addr) (data : LineData) (g : Tag) (t : Txn) :
    Within s ((s.install l st x data).walkAndFinish g t x l) :=
  (within_install s ..).trans (within_walkAndFinish ..)

theorem applyGrantSData_within : AppliesWithin applyGrantSData := by
  intro s g t payload u h
  unfold applyGrantSData at h
  split at h
  · split at h <;> cases h <;> exact within_installed s ..
  · cases h

theorem applyGrantXData_within : AppliesWithin applyGrantXData := by
  intro s g t payload u h
  unfold applyGrantXData at h
  split at h
  · split at h <;> cases h <;> exact within_installed s ..
  · cases h

theorem applyGrantX_within : AppliesWithin applyGrantX := by
  intro s g t payload u h
  unfold applyGrantX at h
  split at h
  · split at h
    · cases h; exact (within_raise s ..).trans (within_issue ..)
    · split at h <;> cases h
      · exact (within_install s ..).trans (within_walkAndFinish ..)
      · exact within_walkAndFinish s ..
    · cases h
  · cases h

theorem applyWbDone_within : AppliesWithin applyWbDone := by
  intro s g t payload u h
  unfold applyWbDone at h
  split at h
  · split at h <;> cases h
    · exact ((within_releaseSlot s ..).trans (within_releaseTag ..)).trans (within_reportEnd ..)
    · exact ((within_endKeep s ..).trans (within_releaseTag ..)).trans (within_reportEnd ..)
  · cases h

theorem applyUcData_within : AppliesWithin applyUcData := by
  intro s g t payload u h
  unfold applyUcData at h
  split at h
  · split at h <;> cases h; exact within_completeUncached s ..
  · cases h

theorem applyUcDone_within : AppliesWithin applyUcDone := by
  intro s g t payload u h
  unfold applyUcDone at h
  split at h
  · split at h <;> cases h; exact within_completeUncached s ..
  · cases h

theorem applyAtomicResult_within : AppliesWithin applyAtomicResult := by
  intro s g t payload u h
  unfold applyAtomicResult at h
  split at h
  · split at h <;> cases h; exact within_completeUncached s ..
  · cases h

theorem applyFail_within : AppliesWithin applyFail := by
  intro s g t payload u h
  unfold applyFail at h
  split at h <;> cases h
  exact (((within_abandon s ..).trans (within_releaseTag ..)).trans (within_raise ..)).trans (within_reportEnd ..)

/-- Conditions 1 to 3 of R67, and the response applied. -/
theorem within_respond {f : State → Tag → Txn → List Byte → Option State} (hf : AppliesWithin f) (s : State)
    (p : Packet) : Within s (s.respond p f) := by
  unfold State.respond
  split
  · exact within_raise s ..
  · split
    · exact within_raise s ..
    · exact within_releaseTag s _
    · split
      · next h => exact hf _ _ _ _ _ h
      · exact within_raise s ..

/-- The oldest response is taken whole (R62, R67). -/
theorem within_takeResponse {f : State → Tag → Txn → List Byte → Option State} (hf : AppliesWithin f) (s : State)
    (wanted : Packet → Bool) : Within s (s.takeResponse wanted f) := by
  unfold State.takeResponse
  split
  · split
    · exact (within_blocks s ..).trans (within_respond hf ..)
    · exact .refl s
  · exact .refl s

end Sys2Proof.Machine
end

section
/-! SUPPORT. What each command does at the ports, and the laws of the requester port that follow (R6, R8, R15, R62). -/

namespace Sys2Proof.Machine

open Sys2Proof.Safety

/-! ### The bulk events -/

/-- The loss of the far link as the one record update that it is (R169). -/
theorem loseFarLink_eq (s : State) :
    s.loseFarLink = noticed { s with
      farLink := .down
      mode := .isolated
      reqCh := []
      ackCh := []
      respCh := []
      recallCh := []
      recallQueue := []
      recallCount := 0
      dir := mapSets DirSet.clear s.dir
      txns := Vector.replicate 32 .free
      eb := Vector.replicate 4 none
      pins := Vector.replicate 4 none
      drain := drainStopped s.drain
      egress := egressAfter s (waiterAnswers s.allWaiters .isolated ++ drainStopReplies s.drain .linkDown) }
      .linkLoss { lines := some s.countM } := by
  simp only [State.loseFarLink, raise_eq, answerAll_eq, stopDrain_eq, noticed, State.mk.injEq, true_and, and_true]
  exact egressAfter_append rfl rfl

/-- A traffic reset as the one record update that it is (R172). The recalls that are acknowledged are those that the pin
records hold once the waiters' records are free. -/
theorem trafficReset_eq {s : State} (h : s.nearLink = .up) :
    s.trafficReset = { s with
      ingress := []
      credits := creditsAfter s.credits s.ingress
      holds := Vector.replicate 4 none
      txns := mapTable TxnEntry.orphan s.txns
      eb := Vector.replicate 4 none
      dir := []
      recallQueue := []
      recallCount := 0
      pins := Vector.replicate 4 none
      drain := drainStopped s.drain
      ackCh := ackChAfter s (({ s with pins := pinsWithout s.pins s.allWaiters } : State).unacknowledged.map
        fun r : RecallRecord => { id := r.id, status := .notHeld })
      egress := s.egress ++ s.ingress.flatMap (fun v => [.credit (senderOf v), resetAnswer v])
        ++ s.holds.toList.reduceOption.map (fun q => .response q.requester q.id q.body.kind.code .reset [])
        ++ waiterAnswers s.allWaiters .reset ++ drainStopReplies s.drain .reset } := by
  simp only [State.trafficReset, resetIngress_eq h, resetHolds_eq, answerAll_eq, ackAll_eq, stopDrain_eq, State.mk.injEq, true_and, and_true]
  refine ⟨?_, ?_⟩
  · simp [egressAfter, h]; rfl
  · rfl

/-! ### Admission and management leave the requester port as it is -/

/-- Packets are produced for the requester port; beside that, the ports and the far channels are as they were. -/
theorem KeepsPort.of_produced {s t : State} {l : List NearPacket} (he : t.egress = egressAfter s l)
    (hr : t.reqCh = s.reqCh) (ha : t.ackCh = s.ackCh) (hn : t.nearLink = s.nearLink) (hi : t.ingress = s.ingress)
    (hc : t.credits = s.credits) (hv : t.noticeInterval = s.noticeInterval) : KeepsPort s t :=
  have h := within_egressAfter s l
  ⟨⟨he ▸ h.egress, hr ▸ List.prefix_rfl, ha ▸ List.prefix_rfl⟩, hn, hi, hc, hv, fun hd => he.trans (h.silent hd)⟩

/-- The ports and the outgoing paths are as they were. -/
theorem KeepsPort.of_same {s t : State} (he : t.egress = s.egress) (hr : t.reqCh = s.reqCh) (ha : t.ackCh = s.ackCh)
    (hn : t.nearLink = s.nearLink) (hi : t.ingress = s.ingress) (hc : t.credits = s.credits)
    (hv : t.noticeInterval = s.noticeInterval) : KeepsPort s t :=
  .of_produced (l := []) (by simpa using he) hr ha hn hi hc hv

section port

variable (s : State) (q : Request) (p : Packet)

/-- The watch unit, the tables, the mode and the notices may come to hold anything. -/
theorem keepsPort_tables (watch : Vector WatchEntry 8) (holds : Vector (Option Request) 4) (captures : List Capture)
    (nextSeq : BitVec 16) (windows : Vector WindowEntry 32) (config : ConfigRecord) (mode : Mode)
    (notices : List Notice) :
    KeepsPort s { s with watch := watch, holds := holds, captures := captures, nextSeq := nextSeq
                         windows := windows, config := config, mode := mode, notices := notices } :=
  .of_same rfl rfl rfl rfl rfl rfl rfl

theorem keepsPort_answer (st : RespStatus) : KeepsPort s (s.answer q st) := (within_answer s q st []).toKeepsPort

theorem keepsPort_reply (st : MgmtStatus) (f : ReplyFields) : KeepsPort s (s.reply p st f) :=
  (within_reply s p st f).toKeepsPort

theorem keepsPort_captureRequest (matched : List (Fin 8)) (slot : Option (Fin 4)) :
    KeepsPort s (s.captureRequest q matched slot) := by
  unfold State.captureRequest
  split
  · exact keepsPort_tables s ..
  · exact (within_raise s ..).toKeepsPort

/-- What the watch check hands on, or keeps, has counted, captured or held the request, or answered it. -/
theorem keepsPort_watchCheck {t : State} (h : s.watchCheck q = .pass t ∨ s.watchCheck q = .stopped t) :
    KeepsPort s t := by
  have hc : KeepsPort s (s.countHits q) := keepsPort_tables s ..
  have hr (slot) : KeepsPort s ((s.countHits q).captureRequest q (s.matching q) slot) :=
    hc.trans (keepsPort_captureRequest ..)
  unfold State.watchCheck at h
  dsimp only at h
  split at h
  · split at h <;> simp only [reduceCtorEq, WatchOutcome.stopped.injEq, false_or] at h <;> subst h
    · exact (hr _).trans (.of_same rfl rfl rfl rfl rfl rfl rfl)
    · exact (hr _).trans (keepsPort_answer ..)
  · split at h <;> simp only [reduceCtorEq, WatchOutcome.pass.injEq, or_false] at h <;> subst h
    · exact hr _
    · exact hc

theorem keepsPort_admitRequest : KeepsPort s (s.admitRequest q) := by
  unfold State.admitRequest
  split
  · exact keepsPort_answer s ..
  · split
    · next h => exact (keepsPort_watchCheck s q (.inl h)).trans (within_admitFromMode ..).toKeepsPort
    · next h => exact keepsPort_watchCheck s q (.inr h)

theorem keepsPort_admitPacket : KeepsPort s (s.admitPacket p) := by
  unfold State.admitPacket
  split
  · exact keepsPort_admitRequest s _
  · exact (within_answerPacket s ..).toKeepsPort

/-! ### The executions of the management commands -/

theorem keepsPort_runReadWindow : KeepsPort s (runReadWindow s p) := by
  unfold runReadWindow
  split
  · split <;> exact keepsPort_reply s ..
  · exact keepsPort_reply s ..

theorem keepsPort_runReadWatch : KeepsPort s (runReadWatch s p) := by
  unfold runReadWatch
  split
  · split <;> exact keepsPort_reply s ..
  · exact keepsPort_reply s ..

theorem keepsPort_runReadConfig : KeepsPort s (runReadConfig s p) := by
  unfold runReadConfig
  split <;> exact keepsPort_reply s ..

theorem keepsPort_runWriteWindow : KeepsPort s (runWriteWindow s p) := by
  unfold runWriteWindow
  split
  · split
    · exact (keepsPort_tables s ..).trans (keepsPort_reply ..)
    · exact keepsPort_reply s ..
  · exact keepsPort_reply s ..

theorem keepsPort_runWriteWatch : KeepsPort s (runWriteWatch s p) := by
  unfold runWriteWatch
  split
  · split
    · exact (keepsPort_tables s ..).trans (keepsPort_reply ..)
    · exact keepsPort_reply s ..
  · exact keepsPort_reply s ..

theorem keepsPort_runWriteConfig : KeepsPort s (runWriteConfig s p) := by
  unfold runWriteConfig
  split
  · split
    · exact (keepsPort_tables s ..).trans (keepsPort_reply ..)
    · exact keepsPort_reply s ..
  · exact keepsPort_reply s ..

theorem keepsPort_runDrain : KeepsPort s (runDrain s p) := by
  unfold runDrain
  split
  · split
    · exact (within_blocks s ..).toKeepsPort
    · exact keepsPort_reply s ..
  · exact keepsPort_reply s ..

theorem keepsPort_runDrainAbort : KeepsPort s (runDrainAbort s p) := by
  unfold runDrainAbort
  split
  · exact keepsPort_reply s ..
  · exact ((within_blocks s ..).trans (within_endScan _)).toKeepsPort.trans (keepsPort_reply ..)
  · exact (within_blocks s ..).toKeepsPort.trans (keepsPort_reply ..)

theorem keepsPort_runPopCapture : KeepsPort s (runPopCapture s p) := by
  unfold runPopCapture
  split
  · exact (keepsPort_tables s ..).trans (keepsPort_reply ..)
  · exact keepsPort_reply s ..

theorem keepsPort_runReleaseHold : KeepsPort s (runReleaseHold s p) := by
  unfold runReleaseHold
  split
  · split
    · exact ((keepsPort_tables s ..).trans (within_admitFromMode ..).toKeepsPort).trans (keepsPort_reply ..)
    · exact keepsPort_reply s ..
  · exact keepsPort_reply s ..

theorem keepsPort_runDiscardHold : KeepsPort s (runDiscardHold s p) := by
  unfold runDiscardHold
  split
  · split
    · exact ((keepsPort_tables s ..).trans (keepsPort_answer ..)).trans (keepsPort_reply ..)
    · exact keepsPort_reply s ..
  · exact keepsPort_reply s ..

theorem keepsPort_runBreakPin : KeepsPort s (runBreakPin s p) := by
  unfold runBreakPin
  split
  · split
    · split
      · exact (within_endPin s ..).toKeepsPort.trans (keepsPort_reply ..)
      · exact keepsPort_reply s ..
    · exact keepsPort_reply s ..
  · exact keepsPort_reply s ..

theorem keepsPort_runReattach : KeepsPort s (runReattach s p) := by
  unfold runReattach
  split
  · exact keepsPort_reply s ..
  · exact (keepsPort_tables s ..).trans (keepsPort_reply ..)

/-- A traffic reset leaves the requester port as the emptying of the ingress queue has left it (R172). -/
theorem keepsPort_runTrafficReset : KeepsPort s.resetIngress (runTrafficReset s p) := by
  have hh (t : State) : KeepsPort t t.resetHolds := by
    rw [resetHolds_eq]
    exact (within_egressAfter t _).toKeepsPort.trans (.of_same rfl rfl rfl rfl rfl rfl rfl)
  have ha (t : State) (rs : List RecallRecord) : Within t (t.ackAll rs) :=
    .foldl (fun s (r : RecallRecord) => within_ackRecall s r.id .notHeld) rs t
  refine KeepsPort.trans ?_ (keepsPort_reply ..)
  exact (((hh _).trans (within_answerAll ..).toKeepsPort).trans (ha ..).toKeepsPort).trans
    ((within_blocks _ ..).trans (within_stopDrain ..)).toKeepsPort

end port

/-! ### What a command does at the requester port and on the outgoing paths -/

/-- The ways in which a command can leave the requester port and the three outgoing paths, packets that are produced
apart. -/
inductive PortStep : Instr → State → State → Prop
  /-- The requester port stands. -/
  | kept {c : Instr} {s t : State} (h : KeepsPort s t) : PortStep c s t
  /-- The oldest packet is taken (R6). -/
  | taken {c : Instr} {s t : State} {p : Packet} {rest : List Packet} (hi : s.ingress = p :: rest)
    (h : KeepsPort (s.takeHead p rest) t) : PortStep c s t
  /-- The oldest packet is taken, and then all others (R172). -/
  | emptied {c : Instr} {s t : State} {p : Packet} {rest : List Packet} (hi : s.ingress = p :: rest)
    (h : KeepsPort (s.takeHead p rest).resetIngress t) : PortStep c s t
  /-- A packet arrives and takes a credit (R6). -/
  | arrived {s : State} {p : Packet} (hn : s.nearLink = .up) (hc : 0 < s.credits[senderOf p]) :
    PortStep (.packetArrival p) s { s with
      ingress := s.ingress ++ [p], credits := upd s.credits (senderOf p) (s.credits[senderOf p] - 1) }
  /-- The notice interval starts or ends, and starts only while the near link is UP (R18). -/
  | interval {c : Instr} {s t : State} {i : Option Nat} (hi : s.nearLink = .up ∨ i = none)
    (h : KeepsPort { s with noticeInterval := i } t) : PortStep c s t
  /-- A packet leaves the egress (R15). -/
  | departed {s t : State} {v : NearPacket} (hn : s.nearLink = .up) (he : s.egress = v :: t.egress)
    (h : KeepsPort { s with egress := t.egress } t) : PortStep .egressDeparture s t
  /-- A packet leaves one of the two far channels (R62). -/
  | farDeparted {c : DepartingChannel} {s t : State} (hr : c = .ack → t.reqCh = s.reqCh)
    (ha : c = .request → t.ackCh = s.ackCh) (h : KeepsPort { s with reqCh := t.reqCh, ackCh := t.ackCh } t) :
    PortStep (.farPacketDeparture c) s t
  /-- The near link is lost, and with it what the port held (R174). -/
  | nearLost {s t : State} (h : KeepsPort { s with
      nearLink := .down, ingress := [], egress := [], credits := Vector.replicate 16 0, noticeInterval := none } t) :
    PortStep .nearLinkDown s t
  /-- The near link comes up with every credit (R17). -/
  | nearRaised {s : State} (hn : s.nearLink = .down) :
    PortStep .nearLinkUp s { s with nearLink := .up, credits := Vector.replicate 16 4 }
  /-- The far link is lost, and with it what its channels held (R169). -/
  | farLost {s t : State} (h : KeepsPort { s with reqCh := [], ackCh := [] } t) : PortStep .farLinkDown s t
  /-- The part is reset (R176). -/
  | reset {s t : State} (hn : t.nearLink = .down) (hi : t.ingress = []) (he : t.egress = [])
    (hv : t.noticeInterval = none) (hc : ∀ r : Requester, t.credits[r] = 0) : PortStep .coldReset s t

section commands

variable (s : State)

theorem portStep_takeRequest (c : Instr) (k : RequestKind) : PortStep c s (s.takeRequest k) := by
  unfold State.takeRequest
  split
  · next h =>
    split
    · exact .taken h (keepsPort_admitPacket ..)
    · exact .kept (.refl s)
  · exact .kept (.refl s)

theorem portStep_takeCommand (c : Instr) (wanted : Packet → Bool) {run : State → Packet → State}
    (hr : ∀ s p, KeepsPort s (run s p)) : PortStep c s (s.takeCommand wanted run) := by
  unfold State.takeCommand
  split
  · next h =>
    split
    · refine .taken h ?_
      unfold State.command
      split
      · exact keepsPort_reply ..
      · split
        · exact keepsPort_reply ..
        · exact hr ..
    · exact .kept (.refl s)
  · exact .kept (.refl s)

theorem portStep_trafficReset (c : Instr) (wanted : Packet → Bool) :
    PortStep c s (s.takeCommand wanted runTrafficReset) := by
  unfold State.takeCommand
  split
  · next h =>
    split
    · unfold State.command
      split
      · exact .taken h (keepsPort_reply ..)
      · split
        · exact .taken h (keepsPort_reply ..)
        · exact .emptied h (keepsPort_runTrafficReset ..)
    · exact .kept (.refl s)
  · exact .kept (.refl s)

/-- The oldest notice is sent and the interval starts (R18). -/
theorem keepsPort_sentNotice (n : Notice) (rest : List Notice) :
    KeepsPort { s with noticeInterval := some (s.now + 8) }
      ({ s with notices := rest, noticeInterval := some (s.now + 8) }.emit (.notice s.config.noticeTarget n)) :=
  .of_produced (l := [.notice s.config.noticeTarget n]) rfl rfl rfl rfl rfl rfl rfl

/-- A notice is taken and the interval starts, while the near link is UP; else nothing is done (R18). -/
theorem portStep_takeNotice (c : Instr) : PortStep c s s.takeNotice := by
  unfold State.takeNotice
  split
  · next hn _ _ => exact .interval (.inl hn) (keepsPort_sentNotice ..)
  · exact .kept (.refl s)

/-- The interval ends, and the next notice is taken (R18). -/
theorem portStep_endInterval (c : Instr) : PortStep c s s.endInterval := by
  unfold State.endInterval State.takeNotice
  split
  · split
    · dsimp only
      split
      · next hn _ _ => exact .interval (.inl hn) (keepsPort_sentNotice { s with noticeInterval := none } ..)
      · exact .interval (.inr rfl) (.refl _)
    · exact .kept (.refl s)
  · exact .kept (.refl s)

/-- The ACTIVE pins end at the loss of the near link (R174). -/
theorem within_clearPins : Within s s.clearPins := by
  refine .foldl (fun s i => ?_) _ s
  split
  · exact within_endPin s ..
  · exact .refl s

theorem portStep_loseNearLink : PortStep .nearLinkDown s s.loseNearLink := by
  refine .nearLost ?_
  refine KeepsPort.trans ?_ ((within_clearPins _).trans (within_blocks _ ..)).toKeepsPort
  exact .of_same rfl rfl rfl rfl rfl rfl rfl

theorem portStep_loseFarLink : PortStep .farLinkDown s s.loseFarLink := by
  rw [loseFarLink_eq]
  exact .farLost (.of_produced rfl rfl rfl rfl rfl rfl rfl)

/-- A response that fits no entry is applied to none (R68). -/
theorem applyNone_within : AppliesWithin fun _ _ _ _ => none := by
  intro s g t payload u h
  cases h

/-- What each command does at the requester port and on the outgoing paths. -/
theorem exec_portStep {c : Instr} {s t : State} (h : exec c s = .next t) : PortStep c s t := by
  cases c with
  | packetArrival p =>
    simp only [exec, execPacketArrival] at h
    split at h <;> cases h
    · next hp => exact .arrived hp.1 hp.2
    · exact .kept (.refl s)
  | read => cases h; exact portStep_takeRequest ..
  | write => cases h; exact portStep_takeRequest ..
  | lockRead => cases h; exact portStep_takeRequest ..
  | unlockWrite => cases h; exact portStep_takeRequest ..
  | atomic => cases h; exact portStep_takeRequest ..
  | unknownKindRequest =>
    simp only [exec, execUnknownKindRequest] at h
    split at h
    · next hi =>
      split at h <;> cases h
      · exact .taken hi (within_answerPacket ..).toKeepsPort
      · exact .kept (.refl s)
    · cases h; exact .kept (.refl s)
  | responseArrival p =>
    cases h
    split
    · exact .kept (within_blocks s ..).toKeepsPort
    · exact .kept (.refl s)
  | grantSData => cases h; exact .kept (within_takeResponse applyGrantSData_within s _).toKeepsPort
  | grantXData => cases h; exact .kept (within_takeResponse applyGrantXData_within s _).toKeepsPort
  | grantX => cases h; exact .kept (within_takeResponse applyGrantX_within s _).toKeepsPort
  | wbDone => cases h; exact .kept (within_takeResponse applyWbDone_within s _).toKeepsPort
  | ucData => cases h; exact .kept (within_takeResponse applyUcData_within s _).toKeepsPort
  | ucDone => cases h; exact .kept (within_takeResponse applyUcDone_within s _).toKeepsPort
  | atomicResult => cases h; exact .kept (within_takeResponse applyAtomicResult_within s _).toKeepsPort
  | fail => cases h; exact .kept (within_takeResponse applyFail_within s _).toKeepsPort
  | unknownResponse =>
    cases h; exact .kept (within_takeResponse applyNone_within s _).toKeepsPort
  | shortResponse =>
    simp only [exec, execShortResponse] at h
    split at h
    · split at h <;> cases h
      · exact .kept ((within_blocks s ..).trans (within_raise ..)).toKeepsPort
      · exact .kept (.refl s)
    · cases h; exact .kept (.refl s)
  | transactionExpiry g => cases h; exact .kept (within_expireTxn s g).toKeepsPort
  | recallArrival p =>
    cases h
    split
    · exact .kept ((within_blocks s ..).trans (within_examineRecalls _)).toKeepsPort
    · exact .kept (.refl s)
  | downgrade => cases h; exact .kept (within_takeRecall s _).toKeepsPort
  | surrender => cases h; exact .kept (within_takeRecall s _).toKeepsPort
  | pinExpiry i => cases h; exact .kept (within_expirePin s i).toKeepsPort
  | drainVisit => cases h; exact .kept (within_visit s).toKeepsPort
  | readEntryWindow => cases h; exact portStep_takeCommand s _ _ keepsPort_runReadWindow
  | readEntryWatch => cases h; exact portStep_takeCommand s _ _ keepsPort_runReadWatch
  | readEntryConfig => cases h; exact portStep_takeCommand s _ _ keepsPort_runReadConfig
  | writeEntryWindow => cases h; exact portStep_takeCommand s _ _ keepsPort_runWriteWindow
  | writeEntryWatch => cases h; exact portStep_takeCommand s _ _ keepsPort_runWriteWatch
  | writeEntryConfig => cases h; exact portStep_takeCommand s _ _ keepsPort_runWriteConfig
  | readStatus => cases h; exact portStep_takeCommand s _ _ fun s p => keepsPort_reply s p ..
  | probeLine => cases h; exact portStep_takeCommand s _ _ fun s p => keepsPort_reply s p ..
  | listPins => cases h; exact portStep_takeCommand s _ _ fun s p => keepsPort_reply s p ..
  | drain => cases h; exact portStep_takeCommand s _ _ keepsPort_runDrain
  | drainAbort => cases h; exact portStep_takeCommand s _ _ keepsPort_runDrainAbort
  | popCapture => cases h; exact portStep_takeCommand s _ _ keepsPort_runPopCapture
  | releaseHold => cases h; exact portStep_takeCommand s _ _ keepsPort_runReleaseHold
  | discardHold => cases h; exact portStep_takeCommand s _ _ keepsPort_runDiscardHold
  | breakPin => cases h; exact portStep_takeCommand s _ _ keepsPort_runBreakPin
  | trafficReset => cases h; exact portStep_trafficReset s ..
  | reattach => cases h; exact portStep_takeCommand s _ _ keepsPort_runReattach
  | noticeTake => cases h; exact portStep_takeNotice s _
  | noticeIntervalEnd => cases h; exact portStep_endInterval s _
  | egressDeparture =>
    simp only [exec, execEgressDeparture] at h
    split at h <;> cases h
    · next hn he => exact .departed hn he (.of_same rfl rfl rfl rfl rfl rfl rfl)
    · exact .kept (.refl s)
  | farPacketDeparture c =>
    simp only [exec, execFarPacketDeparture] at h
    split at h
    · split at h <;> cases h
      · exact .farDeparted nofun (fun _ => rfl) (.of_same rfl rfl rfl rfl rfl rfl rfl)
      · exact .kept (.refl s)
    · split at h <;> cases h
      · exact .farDeparted (fun _ => rfl) nofun (.of_same rfl rfl rfl rfl rfl rfl rfl)
      · exact .kept (.refl s)
    · cases h; exact .kept (.refl s)
  | nearLinkDown =>
    simp only [exec, execNearLinkDown] at h
    split at h <;> cases h
    · exact portStep_loseNearLink s
    · exact .kept (.refl s)
  | nearLinkUp =>
    simp only [exec, execNearLinkUp] at h
    split at h <;> cases h
    · next hn => exact .nearRaised hn
    · exact .kept (.refl s)
  | farLinkDown =>
    simp only [exec, execFarLinkDown] at h
    split at h <;> cases h
    · exact portStep_loseFarLink s
    · exact .kept (.refl s)
  | farLinkUp => cases h; exact .kept (.of_same rfl rfl rfl rfl rfl rfl rfl)
  | coldReset => cases h; exact .reset rfl rfl rfl rfl (replicate_get 0)
  | unknownCommand =>
    simp only [exec, execUnknownCommand] at h
    split at h
    · next hi =>
      split at h <;> cases h
      · exact .taken hi (keepsPort_reply ..)
      · exact .kept (.refl s)
    · cases h; exact .kept (.refl s)

end commands

/-! ### Produced packets keep their order (R15, R62) -/

/-- A packet taken out of the ingress queue: its CREDIT is produced (R6). -/
theorem produces_takeHead (s : State) (p : Packet) (rest : List Packet) : Produces s (s.takeHead p rest) :=
  ⟨by rw [State.takeHead_egress]; split <;> simp, List.prefix_rfl, List.prefix_rfl⟩

/-- All packets taken out of the ingress queue, each with its CREDIT and RESET answer (R17). -/
theorem produces_resetIngress (s : State) : Produces s s.resetIngress := by
  have step (t : State) (p : Packet) : Produces t ((t.takeHead p []).answerReset p) := by
    refine (produces_takeHead t p []).trans ?_
    unfold State.answerReset
    split
    · exact (within_emit ..).toProduces
    · exact (within_answerPacket ..).toProduces
  have fold (ps : List Packet) (t : State) :
      Produces t (ps.foldl (fun s p => (s.takeHead p []).answerReset p) t) := by
    induction ps generalizing t with
    | nil => exact .refl t
    | cons p ps ih => exact (step t p).trans (ih _)
  have h := fold s.ingress { s with ingress := [] }
  exact ⟨h.egress, h.reqCh, h.ackCh⟩

/-- Settles O17: the ways in which a command can leave the outgoing paths (`exec_portStep`) are gone through. -/
theorem producedPacketsKeepTheirOrder : Obligations.ProducedPacketsKeepTheirOrder := by
  intro c s t h hc
  have appended {u : State} (hp : Produces u t) : (∃ l, t.egress = u.egress ++ l) ∧
      (∃ l, t.reqCh = u.reqCh ++ l) ∧ ∃ l, t.ackCh = u.ackCh ++ l :=
    ⟨hp.egress.imp fun _ => Eq.symm, hp.reqCh.imp fun _ => Eq.symm, hp.ackCh.imp fun _ => Eq.symm⟩
  have all (hp : Produces s t) : (c ≠ .egressDeparture → c ≠ .nearLinkDown → ∃ l, t.egress = s.egress ++ l) ∧
      (c ≠ .farPacketDeparture .request → c ≠ .farLinkDown → ∃ l, t.reqCh = s.reqCh ++ l) ∧
      (c ≠ .farPacketDeparture .ack → c ≠ .farLinkDown → ∃ l, t.ackCh = s.ackCh ++ l) :=
    ⟨fun _ _ => (appended hp).1, fun _ _ => (appended hp).2.1, fun _ _ => (appended hp).2.2⟩
  cases exec_portStep h with
  | kept h => exact all h.toProduces
  | taken hi h => exact all ((produces_takeHead ..).trans h.toProduces)
  | emptied hi h =>
    exact all (((produces_takeHead ..).trans (produces_resetIngress _)).trans h.toProduces)
  | arrived => exact all ⟨List.prefix_rfl, List.prefix_rfl, List.prefix_rfl⟩
  | interval hi h => exact all ⟨h.egress, h.reqCh, h.ackCh⟩
  | departed hn he h =>
    obtain ⟨-, hr, ha⟩ := appended h.toProduces
    exact ⟨fun h => absurd rfl h, fun _ _ => hr, fun _ _ => ha⟩
  | @farDeparted ch _ _ hr ha h =>
    obtain ⟨he, -, -⟩ := appended h.toProduces
    refine ⟨fun _ _ => he, fun h _ => ⟨[], ?_⟩, fun h _ => ⟨[], ?_⟩⟩
    · cases ch
      · exact absurd rfl h
      · simp [hr rfl]
    · cases ch
      · simp [ha rfl]
      · exact absurd rfl h
  | nearLost h =>
    obtain ⟨-, hr, ha⟩ := appended h.toProduces
    exact ⟨fun _ h => absurd rfl h, fun _ _ => hr, fun _ _ => ha⟩
  | nearRaised => exact all ⟨List.prefix_rfl, List.prefix_rfl, List.prefix_rfl⟩
  | farLost h =>
    obtain ⟨he, -, -⟩ := appended h.toProduces
    exact ⟨fun _ _ => he, fun _ h => absurd rfl h, fun _ h => absurd rfl h⟩
  | reset => exact absurd rfl hc

/-! ### The credit balance (R6, R8) -/

/-- While the near link is UP, a requester's credits and queued packets. -/
theorem creditForm_up {s : State} (h : s.nearLink = .up) :
    CreditForm s ↔ ∀ r : Requester, s.credits[r] + s.ingress.countP (fun p => senderOf p == r) = 4 := by
  simp [CreditForm, h]

/-- While the near link is DOWN, the port is empty (R17). -/
theorem creditForm_down {s : State} (h : s.nearLink = .down) : CreditForm s ↔
    s.ingress = [] ∧ s.egress = [] ∧ s.noticeInterval = none ∧ ∀ r : Requester, s.credits[r] = 0 := by
  simp [CreditForm, h]

theorem creditForm_of_keepsPort {s t : State} (hs : CreditForm s) (h : KeepsPort s t) : CreditForm t := by
  cases hn : s.nearLink with
  | up =>
    rw [creditForm_up hn] at hs
    rw [creditForm_up (h.nearLink.trans hn), h.credits, h.ingress]
    exact hs
  | down =>
    rw [creditForm_down hn] at hs
    rw [creditForm_down (h.nearLink.trans hn), h.credits, h.ingress, h.noticeInterval, h.silent hn]
    exact hs

/-- A packet is queued only while the near link is UP. -/
theorem nearLink_of_queued {s : State} {p : Packet} {rest : List Packet} (hs : CreditForm s)
    (hi : s.ingress = p :: rest) : s.nearLink = .up := by
  cases hn : s.nearLink with
  | up => rfl
  | down => rw [((creditForm_down hn).1 hs).1] at hi; cases hi

/-- The oldest packet leaves the queue and its credit returns (R6). -/
theorem creditForm_takeHead {s : State} {p : Packet} {rest : List Packet} (hs : CreditForm s)
    (hi : s.ingress = p :: rest) : CreditForm (s.takeHead p rest) := by
  have hn := nearLink_of_queued hs hi
  rw [creditForm_up hn, hi] at hs
  rw [creditForm_up (by simpa using hn)]
  intro r
  have hr := hs r
  rw [List.countP_cons] at hr
  rw [State.takeHead_credits, State.takeHead_ingress, upd_get]
  by_cases h : senderOf p = r
  · subst h; simp at hr ⊢; omega
  · simpa [h] using hr

/-- All packets leave the queue and all credits return (R17). -/
theorem creditForm_resetIngress {s : State} (hs : CreditForm s) (hn : s.nearLink = .up) :
    CreditForm s.resetIngress := by
  rw [creditForm_up hn] at hs
  rw [resetIngress_eq hn]
  refine (creditForm_up (by exact hn)).2 fun r => ?_
  rw [creditsAfter_get]
  simpa using hs r

/-- A packet arrives and takes a credit (R6). -/
theorem creditForm_arrived {s : State} {p : Packet} (hs : CreditForm s) (hn : s.nearLink = .up)
    (hc : 0 < s.credits[senderOf p]) : CreditForm { s with
      ingress := s.ingress ++ [p], credits := upd s.credits (senderOf p) (s.credits[senderOf p] - 1) } := by
  rw [creditForm_up hn] at hs
  refine (creditForm_up (by exact hn)).2 fun r => ?_
  have hr := hs r
  rw [upd_get, List.countP_append, List.countP_singleton]
  by_cases h : senderOf p = r
  · subst h; simp at hr hc ⊢; omega
  · simpa [h] using hr

/-- Every command keeps the credit balance. -/
theorem creditForm_portStep {c : Instr} {s t : State} (hs : CreditForm s) (h : PortStep c s t) : CreditForm t := by
  cases h with
  | kept h => exact creditForm_of_keepsPort hs h
  | taken hi h => exact creditForm_of_keepsPort (creditForm_takeHead hs hi) h
  | emptied hi h =>
    have hn := nearLink_of_queued hs hi
    exact creditForm_of_keepsPort (creditForm_resetIngress (creditForm_takeHead hs hi) hn) h
  | arrived hn hc => exact creditForm_arrived hs hn hc
  | @interval _ _ _ i hi h =>
    refine creditForm_of_keepsPort ?_ h
    cases hn : s.nearLink with
    | up => exact (creditForm_up rfl).2 ((creditForm_up hn).1 hs)
    | down =>
      obtain ⟨hq, he, -, hc⟩ := (creditForm_down hn).1 hs
      exact (creditForm_down rfl).2 ⟨hq, he, hi.resolve_left (by simp [hn]), hc⟩
  | departed hn he h =>
    exact creditForm_of_keepsPort (s := { s with egress := t.egress })
      ((creditForm_up (by exact hn)).2 ((creditForm_up hn).1 hs)) h
  | farDeparted hr ha h => exact creditForm_of_keepsPort (s := { s with reqCh := t.reqCh, ackCh := t.ackCh }) hs h
  | nearLost h => exact creditForm_of_keepsPort ((creditForm_down rfl).2 ⟨rfl, rfl, rfl, replicate_get 0⟩) h
  | nearRaised hn =>
    refine (creditForm_up rfl).2 fun r => ?_
    rw [((creditForm_down hn).1 hs).1]
    simp
  | farLost h => exact creditForm_of_keepsPort (s := { s with reqCh := [], ackCh := [] }) hs h
  | reset hn hi he hv hc => exact (creditForm_down hn).2 ⟨hi, he, hv, hc⟩

/-- The tick keeps the credit balance: the expiries leave the port as it is, and the interval's end is a command's. -/
theorem creditForm_tick {s t : State} (hs : CreditForm s) (ht : s.tick = t) : CreditForm t := by
  have hg := Within.foldl (f := State.expireTxn) within_expireTxn (List.finRange 32) s
  have hp := Within.foldl (f := State.expirePin) within_expirePin (List.finRange 4)
    ((List.finRange 32).foldl State.expireTxn s)
  simp only [State.tick, State.expireDue] at ht
  generalize (List.finRange 4).foldl State.expirePin ((List.finRange 32).foldl State.expireTxn s) = u at hp ht
  have hu : CreditForm u := creditForm_of_keepsPort hs (hg.trans hp).toKeepsPort
  have hv : CreditForm u.endInterval := creditForm_portStep hu (portStep_endInterval u .noticeIntervalEnd)
  generalize u.endInterval = v at hv ht
  subst ht
  exact creditForm_of_keepsPort hv (.of_same rfl rfl rfl rfl rfl rfl rfl)

/-- The queued packets are those of the requesters together. -/
theorem length_eq_sum_countP (ps : List Packet) :
    ps.length = ∑ r : Requester, ps.countP fun p => senderOf p == r := by
  induction ps with
  | nil => simp
  | cons p ps ih => simp [List.countP_cons, Finset.sum_add_distrib, ← ih]

/-- R8: the queue never needs more than its 64 entries. -/
theorem ingress_bounded {s : State} (hs : CreditForm s) : s.ingress.length ≤ 64 := by
  cases hn : s.nearLink with
  | up =>
    rw [length_eq_sum_countP]
    refine (Finset.sum_le_card_nsmul Finset.univ _ 4 fun r _ => ?_).trans (by simp)
    exact ((creditForm_up hn).1 hs r) ▸ Nat.le_add_left ..
  | down => simp [((creditForm_down hn).1 hs).1]

/-- Settles O7: a command at the front by `exec_portStep`, the empty queue by `creditForm_tick`. -/
theorem stepsKeepTheCreditBalance : Obligations.StepsKeepTheCreditBalance := by
  refine fun s hs => ⟨ingress_bounded hs, fun t h => ?_⟩
  unfold step at h
  split at h
  · next c rest _ => exact creditForm_portStep (s := { s with pending := rest }) hs (exec_portStep h)
  · rw [Host.Outcome.next.injEq] at h
    exact creditForm_tick hs h

/-! ### The front command, and the arrival of a packet -/

/-- Settles O1. -/
theorem stepRunsTheFrontCommand : Obligations.StepRunsTheFrontCommand := fun _ _ _ => rfl

/-- Settles O18, by whether the requester has a credit. -/
theorem packetArrivalTakesACredit : Obligations.PacketArrivalTakesACredit := by
  intro p s hn
  refine ⟨fun hc => ?_, fun hc => ?_⟩
  · simp only [exec, execPacketArrival, hn, hc, and_self, if_true]
  · simp [exec, execPacketArrival, hc]

end Sys2Proof.Machine
end

section
/-! SUPPORT. The form check of the requester port: what it refuses, what a packet that passes it asks, and how what it
refuses is answered (R3, R10, R178). -/

namespace Sys2Proof.Machine

open Sys2Proof.Safety

/-! ### The checks, one by one -/

/-- A byte is a number's byte exactly when it holds the number. -/
theorem byte_eq_iff (b : Byte) (n : Nat) (h : n < 256 := by decide) : b = BitVec.ofNat 8 n ↔ b.toNat = n := by
  rw [← BitVec.toNat_inj, BitVec.toNat_ofNat, Nat.mod_eq_of_lt h]

/-- The range check fails: the length is 0 or above 64, or the range leaves its line (R10). -/
theorem rangeFits_eq_false (p : Packet) :
    rangeFits (addrAt p 4) (byteAt p 3).toNat = false ↔ RangeRefused p := by
  have h0 : byteAt p 3 = 0 ↔ (byteAt p 3).toNat = 0 := byte_eq_iff _ 0
  simp only [rangeFits, RangeRefused, h0, Bool.and_eq_false_iff, decide_eq_false_iff_not]
  omega

/-- The mask and data are absent: too few mask bytes, or bits or data bytes unlike the length in number (R10). -/
theorem maskAndData_eq_none (p : Packet) : maskAndData p (byteAt p 3).toNat = none ↔ MaskRefused p := by
  have hb : byteAt p 12 ≠ byteAt p 3 ↔ (byteAt p 12).toNat ≠ (byteAt p 3).toNat := BitVec.toNat_inj.symm.not
  simp only [maskAndData, MaskRefused, maskSize, hb, List.length_drop]
  split
  · next h => simp [h]
  · next h => split <;> simp_all

/-- The mask and data that are there: as many bits as the length, out of the mask bytes, and the bytes behind them. -/
theorem maskAndData_eq_some {p : Packet} {len : Nat} {mask : List Bool} {data : List Byte}
    (h : maskAndData p len = some (mask, data)) :
    (byteAt p 12).toNat = len ∧ mask = unpackMask len (payloadOf p) ∧ data = (payloadOf p).drop (maskSize len) := by
  simp only [maskAndData] at h
  split at h
  · cases h
  · split at h
    · cases h
    · next hb =>
      rw [not_not] at hb
      split at h <;> cases h
      rw [hb]
      exact ⟨rfl, rfl, rfl⟩

/-- Bit `i` of an unpacked mask (R177). -/
theorem unpackMask_get {k i : Nat} (h : i < k) (bytes : List Byte) :
    (unpackMask k bytes)[i]? = some ((byteAt bytes (i / 8)).getLsbD (i % 8)) := by
  simp [unpackMask, h]

theorem unpackMask_length (k : Nat) (bytes : List Byte) : (unpackMask k bytes).length = k := by simp [unpackMask]

/-- No bit of the mask is set. -/
theorem unpackMask_any_eq_false (p : Packet) :
    (unpackMask (byteAt p 12).toNat (payloadOf p)).any id = false ↔ MaskEmpty p := by
  simp [unpackMask, MaskEmpty, List.any_eq_false]

/-- The op is absent: unknown, without or against its compare flag, or short of operands (R10). -/
theorem atomicOpOf_eq_none (p : Packet) : atomicOpOf p = none ↔
    (commandByte p ≠ 1 ∧ commandByte p ≠ 2 ∧ commandByte p ≠ 3) ∨
    (commandByte p = 3 ∧ (byteAt p 11).getLsbD 0 = false) ∨
    (commandByte p ≠ 3 ∧ (byteAt p 11).getLsbD 0 = true) ∨ (payloadOf p).length < 8 ∨
    ((byteAt p 11).getLsbD 0 = true ∧ (payloadOf p).length < 16) := by
  have h1 : commandByte p = 1 ↔ _ := byte_eq_iff _ 1
  have h2 : commandByte p = 2 ↔ _ := byte_eq_iff _ 2
  have h3 : commandByte p = 3 ↔ _ := byte_eq_iff _ 3
  simp only [atomicOpOf, ne_eq, h1, h2, h3]
  generalize (commandByte p).toNat = op
  generalize (byteAt p 11).getLsbD 0 = flag
  split
  · next h => simp [h]
  · next h =>
    split
    · simp; omega
    · simp; omega
    · split <;> simp <;> omega
    · next n1 n2 n3 => cases flag <;> simp_all; omega

/-- R10: the form check refuses an ATOMIC for its address or for its op. -/
theorem atomicRefused_iff (p : Packet) :
    AtomicRefused p ↔ (addrAt p 4).toNat % 8 ≠ 0 ∨ atomicOpOf p = none := by
  rw [atomicOpOf_eq_none]
  exact or_left_comm

/-! ### The form check of a memory request -/

/-- The form check refuses a packet exactly when it finds no fields of its kind. -/
theorem parseRequest_eq_none (p : Packet) : parseRequest p = none ↔ bodyOf p = none := by
  unfold parseRequest
  cases bodyOf p <;> simp

/-- R10: what the form check refuses, by the packet's kind. -/
theorem parseRequest_refuses {p : Packet} {k : RequestKind} (hk : kindByte p = k.code) :
    parseRequest p = none ↔ RequestRefused p k := by
  have hr := rangeFits_eq_false p
  have hm := maskAndData_eq_none p
  have hn : (kindByte p).toNat = k.code.toNat := by rw [hk]
  rw [parseRequest_eq_none]
  cases k with
  | read =>
    simp only [bodyOf, hn, RequestKind.code, RequestRefused, ← hr]
    simp
  | write =>
    simp only [bodyOf, hn, RequestKind.code, RequestRefused, ← hr, ← hm]
    cases hf : rangeFits (addrAt p 4) (byteAt p 3).toNat with
    | false => simp
    | true =>
      cases hd : maskAndData p (byteAt p 3).toNat with
      | none => simp
      | some v =>
        obtain ⟨hb, hmask, -⟩ := maskAndData_eq_some hd
        have he := unpackMask_any_eq_false p
        rw [hb, ← hmask] at he
        simp [← he]
  | lockRead =>
    simp only [bodyOf, hn, RequestKind.code, RequestRefused, ← hr]
    simp
  | unlockWrite =>
    simp only [bodyOf, hn, RequestKind.code, RequestRefused, ← hr, ← hm]
    cases hf : rangeFits (addrAt p 4) (byteAt p 3).toNat with
    | false => simp
    | true => cases hd : maskAndData p (byteAt p 3).toNat <;> simp
  | atomic =>
    simp only [bodyOf, hn, RequestKind.code, RequestRefused, atomicRefused_iff]
    by_cases h8 : (addrAt p 4).toNat % 8 = 0
    · cases hop : atomicOpOf p <;> simp [h8]
    · simp [h8]

/-- The fields that the form check reads out of a packet that it passes (R178). -/
theorem bodyOf_eq_some {p : Packet} {b : RequestBody} (h : bodyOf p = some b) :
    (b.kind ≠ .atomic → b.len = (byteAt p 3).toNat) ∧
      (∀ len mask bytes, b = .write len mask bytes ∨ b = .unlockWrite len mask bytes →
        maskAndData p len = some (mask, bytes)) ∧
      ∀ op, b = .atomic op → atomicOpOf p = some op := by
  simp only [bodyOf] at h
  split at h
  · split at h <;> cases h
    simp [RequestBody.len]
  · split at h
    · split at h
      · next hd => split at h <;> cases h; simp [RequestBody.len, hd]
      · cases h
    · cases h
  · split at h <;> cases h
    simp [RequestBody.len]
  · split at h
    · split at h <;> cases h
      next hd => simp [RequestBody.len, hd]
    · cases h
  · split at h
    · split at h <;> cases h
      next hop => simp [RequestBody.kind, hop]
    · cases h
  · cases h

/-- The op with its operands that an ATOMIC carries (R178). -/
theorem atomicOpOf_eq_some {p : Packet} {op : AtomicOp} (h : atomicOpOf p = some op) :
    (∀ v, op = .add v → commandByte p = 1 ∧ v = BitVec.ofNat 64 (fieldAt (payloadOf p) 0 8)) ∧
      (∀ v, op = .swap v → commandByte p = 2 ∧ v = BitVec.ofNat 64 (fieldAt (payloadOf p) 0 8)) ∧
      ∀ v w, op = .cas v w → commandByte p = 3 ∧ v = BitVec.ofNat 64 (fieldAt (payloadOf p) 0 8) ∧
        w = BitVec.ofNat 64 (fieldAt (payloadOf p) 8 8) := by
  simp only [atomicOpOf] at h
  split at h
  · cases h
  · split at h
    · next hc _ => cases h; simp [byte_of_toNat hc]
    · next hc _ => cases h; simp [byte_of_toNat hc]
    · next hc _ => split at h <;> cases h; simp [byte_of_toNat hc]
    · cases h

/-! ### The form check of a command -/

/-- A command code above 14 is none of the commands' (R178). -/
theorem commandFields_above {code : Nat} (h : 14 < code) : commandFields code = none := by
  obtain ⟨k, rfl⟩ : ∃ k, code = k + 15 := ⟨code - 15, by omega⟩
  rfl

/-- R10: what the form check refuses of kind MGMT. -/
theorem commandWellFormed_eq_false (p : Packet) : commandWellFormed p = false ↔ CommandRefused p := by
  simp only [commandWellFormed, CommandRefused, BitVec.toNat_eq, BitVec.ofNat_eq_ofNat, BitVec.toNat_ofNat,
    Nat.reducePow, Nat.reduceMod]
  generalize (commandByte p).toNat = code
  by_cases h : 14 < code
  · simp [commandFields_above h, h]
  · interval_cases code <;> simp [commandFields]

/-! ### The answers -/

/-- A memory request that fails the form check: its credit returns, and it is answered MALFORMED (R10). -/
theorem exec_malformed {s : State} {p : Packet} {rest : List Packet} {k : RequestKind} (hn : s.nearLink = .up)
    (hi : s.ingress = p :: rest) (hk : kindByte p = k.code) (hp : parseRequest p = none) :
    exec (requestStep k) s = .next ((credited s p rest).answerPacket p .malformed) := by
  have h : exec (requestStep k) s = .next (s.takeRequest k) := by cases k <;> rfl
  simp only [h, State.takeRequest, hi, hk, if_true, takeHead_eq hn, State.admitPacket, hp]

/-- The answer MALFORMED behind the CREDIT, while the near link is UP (R3, R15). -/
theorem credited_malformed {s : State} (hn : s.nearLink = .up) (p : Packet) (rest : List Packet) :
    (credited s p rest).answerPacket p .malformed = { credited s p rest with
      egress := s.egress ++ [.credit (senderOf p),
        .response (senderOf p) (requestIdOf p) (kindByte p) .malformed []] } := by
  simp [State.answerPacket, State.emit, credited, hn]

/-- Settles O19: the form check by the kinds, the fields by what was read, the answers by the three steps. -/
theorem malformedRequestsAreAnswered : Obligations.MalformedRequestsAreAnswered := by
  refine ⟨fun p k hk => parseRequest_refuses hk, fun p q hq => ?_, commandWellFormed_eq_false, ?_⟩
  · have hb : bodyOf p = some q.body ∧ q.requester = senderOf p ∧ q.id = requestIdOf p ∧ q.addr = addrAt p 4 := by
      unfold parseRequest at hq
      split at hq <;> cases hq
      next h => exact ⟨h, rfl, rfl, rfl⟩
    obtain ⟨hb, hr, hid, ha⟩ := hb
    obtain ⟨hlen, hmask, hop⟩ := bodyOf_eq_some hb
    refine ⟨hr, hid, ha, kindByte_of_parse hq, hlen, fun len mask bytes h => ?_, fun v h => ?_, fun v h => ?_,
      fun v w h => ?_⟩
    · obtain ⟨-, rfl, rfl⟩ := maskAndData_eq_some (hmask len mask bytes h)
      exact ⟨unpackMask_length .., rfl, fun i hi => unpackMask_get hi _⟩
    · exact (atomicOpOf_eq_some (hop _ h)).1 v rfl
    · exact (atomicOpOf_eq_some (hop _ h)).2.1 v rfl
    · exact (atomicOpOf_eq_some (hop _ h)).2.2 v w rfl
  · intro s p rest hn hi
    refine ⟨fun k hk hp => ?_, fun hu => ?_, fun hk hw => ?_⟩
    · rw [exec_malformed hn hi hk hp, credited_malformed hn]
    · simp only [exec, execUnknownKindRequest, hi, hu, if_true, takeHead_eq hn, credited_malformed hn]
    · rw [exec_management hn hi hk]
      simp [State.command, hw, reply_eq (s := credited s p rest) hn]

end Sys2Proof.Machine
end

section
/-! SUPPORT. The window lookup, the rights, copy removal and the refusals of admission (R12, R13, R21 to R25, R30). -/

namespace Sys2Proof.Machine

open Sys2Proof.Safety

/-! ### The window lookup -/

theorem contains_iff (e : WindowEntry) (a : Addr) : e.contains a = true ↔ Covers e a := by
  simp [WindowEntry.contains, Covers, and_assoc]

/-- The first entry that contains the address decides (R21). -/
theorem treatmentOf_covered {s : State} {a : Addr} {i : Fin 32} (h : Covers s.windows[i] a)
    (hlow : ∀ j < i, ¬ Covers s.windows[j] a) : s.treatmentOf a = s.windows[i].treatment := by
  have hf : s.windows.toList.find? (fun e => e.contains a) = some s.windows[i] := by
    refine List.find?_eq_some_iff_getElem.2 ⟨(contains_iff ..).2 h, i.val, by simp, by simp, fun j hj => ?_⟩
    have hn := hlow ⟨j, hj.trans i.isLt⟩ hj
    simpa [← contains_iff] using hn
  simp only [State.treatmentOf, hf]

/-- No entry contains the address: the default window (R22). -/
theorem treatmentOf_uncovered {s : State} {a : Addr} (h : ∀ i : Fin 32, ¬ Covers s.windows[i] a) :
    s.treatmentOf a = s.config.defaultWindow := by
  have hf : s.windows.toList.find? (fun e => e.contains a) = none := by
    rw [List.find?_eq_none]
    intro e he
    obtain ⟨i, hi, rfl⟩ := List.getElem_of_mem he
    rw [contains_iff]
    exact h ⟨i, by simpa using hi⟩
  simp only [State.treatmentOf, hf]

/-! ### Rights and copy removal -/

/-- READ needs the read right, every other kind the write right (R23). -/
theorem permits_eq (t : Treatment) (q : Request) : t.permits q =
    if q.body.kind = .read then t.readMask.getLsbD q.requester.val else t.writeMask.getLsbD q.requester.val := by
  unfold Treatment.permits
  cases q.body <;> rfl

/-- Which requests are subject to copy removal (R30). -/
theorem removesCopy_iff (t : Treatment) (b : RequestBody) : t.removesCopy b = true ↔
    (t.policy = .uc ∧ (b.kind = .read ∨ b.kind = .write ∨ b.kind = .atomic)) ∨
      (t.policy = .rc ∧ (b.kind = .write ∨ b.kind = .atomic)) ∨
      (t.policy = .wb ∧ t.atomicMode = .atHome ∧ b.kind = .atomic) := by
  unfold Treatment.removesCopy
  cases t.policy <;> cases b <;> simp [RequestBody.kind]

/-! ### The exemption and the held request -/

/-- An ACTIVE record of the requester on the line. -/
theorem ownPin_isSome {s : State} {r : Requester} {x : Addr} : (s.ownPin r x).isSome = true ↔
    ∃ i : Fin 4, ∃ v ∈ s.pins[i], v.isActive = true ∧ v.owner = r ∧ v.line = x := by
  simp [State.ownPin, lowest_isSome, Option.any_eq_true, and_assoc]

theorem exempt_iff (s : State) (q : Request) : s.exempt q = true ↔ q.body.kind = .unlockWrite ∧
    ∃ i : Fin 4, ∃ v ∈ s.pins[i], v.isActive = true ∧ v.owner = q.requester ∧ v.line = lineOf q.addr := by
  rw [← ownPin_isSome]
  unfold State.exempt
  cases q.body <;> simp [RequestBody.kind]

theorem heldOnLine_iff (s : State) (r : Requester) (x : Addr) : s.heldOnLine r x = true ↔
    ∃ i : Fin 4, ∃ h ∈ s.holds[i], h.requester = r ∧ lineOf h.addr = x := by
  simp [State.heldOnLine, lowest_isSome, Option.any_eq_true]

/-! ### The refusals -/

/-- Behind a held request of its requester on its line, a request is answered RETRY (R12). -/
theorem admit_behind_held {s : State} {p : Packet} {rest : List Packet} {q : Request} (hn : s.nearLink = .up)
    (h : s.heldOnLine q.requester (lineOf q.addr) = true) :
    (credited s p rest).admitRequest q = responding (credited s p rest) q .retry := by
  simp only [State.admitRequest, credited_heldOnLine, h, if_true]
  exact answer_eq (s := credited s p rest) hn q .retry []

/-- A request that no entry captures or holds meets the mode check in ISOLATED (R13). -/
theorem admit_isolated {s : State} {p : Packet} {rest : List Packet} {q : Request} (hn : s.nearLink = .up)
    (hl : s.heldOnLine q.requester (lineOf q.addr) = false) (hc : s.matchesWith q .capture = false)
    (hh : s.matchesWith q .hold = false) (hm : s.mode = .isolated) :
    (credited s p rest).admitRequest q = responding (counted s p rest q) q .isolated := by
  have hw : (credited s p rest).watchCheck q = .pass (counted s p rest q) := by
    simp only [State.watchCheck, credited_matchesWith, hh, hc]
    rfl
  have ha : (counted s p rest q).admitFromMode q = (counted s p rest q).answer q .isolated := by
    simp only [State.admitFromMode, counted_mode, hm]
  simp only [State.admitRequest, credited_heldOnLine, hl, hw, ha]
  exact answer_eq (s := counted s p rest q) hn q .isolated []

section window

variable {s : State} {q : Request} (hx : s.exempt q = false)
include hx

/-- Condition 2 of R24: DENY. -/
theorem windowCheck_deny (h : (s.treatmentOf q.addr).policy = .deny) : s.windowCheck q = s.answer q .denied := by
  simp [State.windowCheck, hx, h]

/-- Condition 3 of R24: the right is missing. -/
theorem windowCheck_unpermitted (hd : (s.treatmentOf q.addr).policy ≠ .deny)
    (h : (s.treatmentOf q.addr).permits q = false) : s.windowCheck q = s.answer q .denied := by
  simp [State.windowCheck, hx, hd, h]

/-- Condition 4 of R24: a LOCK_READ under another policy than WB. -/
theorem windowCheck_policy (hd : (s.treatmentOf q.addr).policy ≠ .deny)
    (hp : (s.treatmentOf q.addr).permits q = true) (hl : q.body.isLockRead = true)
    (hw : (s.treatmentOf q.addr).policy ≠ .wb) : s.windowCheck q = s.answer q .policy := by
  simp [State.windowCheck, hx, hd, hp, hl, hw]

end window

/-- A request that comes to a window of policy DENY is answered DENIED, an exempt UNLOCK_WRITE apart (R24). -/
theorem exec_comes_denied {q : Request} {c : Instr} {s u : State} {done : State → State}
    (h : ComesToWindow q c s u done) (hx : u.exempt q = false) (hd : (u.treatmentOf q.addr).policy = .deny) :
    exec c s = .next (done (responding u q .denied)) := by
  rw [exec_comes h, windowCheck_deny hx hd, answer_eq (comes_nearLink h)]

/-- Settles O20: the lookup, the rights, the exemption, and then the refusals in the order of admission. -/
theorem admissionRefuses : Obligations.AdmissionRefuses := by
  refine ⟨fun s a => ⟨fun i h hl => treatmentOf_covered h hl, fun h => ?_⟩, fun t q => ⟨?_, ?_, removesCopy_iff ..⟩,
    fun s q => ⟨exempt_iff .., heldOnLine_iff ..⟩, fun s p rest q h => ⟨?_, ?_⟩, fun q c s u done h hx => ?_⟩
  · rw [treatmentOf_uncovered h, ConfigRecord.defaultWindow]
    cases s.config.defaultPolicy <;> rfl
  · intro hk
    rw [permits_eq, if_pos hk]
  · intro hk
    rw [permits_eq, if_neg hk]
  · intro hh
    rw [exec_request h, admit_behind_held h.1 hh]
  · intro hl hc hh hm
    rw [exec_request h, admit_isolated h.1 hl hc hh hm]
  · have ha (st : RespStatus) : u.answer q st = responding u q st := answer_eq (comes_nearLink h) q st []
    refine ⟨exec_comes_denied h hx, fun hd hp => ?_, fun hd hp hl hw => ?_⟩
    · rw [exec_comes h, windowCheck_unpermitted hx hd hp, ha]
    · rw [exec_comes h, windowCheck_policy hx hd hp hl hw, ha]

end Sys2Proof.Machine
end

section
/-! SUPPORT. Reading and writing the bytes of a line (R2), and the WRITE and LOCAL ATOMIC on an X or M line (R44, R45). -/

namespace Sys2Proof.Machine

open Sys2Proof.Safety

/-! ### The bytes that a write leaves (R2) -/

/-- A byte of an overlay: the data byte where the mask is set and there is one, else the old byte. -/
theorem overlay_getElem? (old : List Byte) (mask : List Bool) (bytes : List Byte) (i : Nat) :
    (overlay old mask bytes)[i]? =
      old[i]?.map fun o => if mask[i]? = some true then bytes[i]?.getD o else o := by
  induction old generalizing mask bytes i with
  | nil => cases mask <;> cases bytes <;> simp [overlay]
  | cons o old ih =>
    cases mask with
    | nil => simp [overlay]
    | cons m mask =>
      cases bytes with
      | nil => simp [overlay]
      | cons b bytes =>
        cases i with
        | zero => simp [overlay]
        | succ i => simpa [overlay] using ih mask bytes i

theorem overlay_length (old : List Byte) (mask : List Bool) (bytes : List Byte) :
    (overlay old mask bytes).length = old.length := by
  induction old generalizing mask bytes with
  | nil => cases mask <;> cases bytes <;> rfl
  | cons o old ih => cases mask <;> cases bytes <;> simp [overlay, ih]

/-- Line data out of 64 bytes. -/
theorem lineDataOf_get {l : List Byte} (hl : l.length = 64) (k : Fin 64) :
    (lineDataOf l)[k] = l[k.val]'(by omega) := by
  simp [lineDataOf, hl]

/-- A byte of a written line (R2, R44). -/
theorem writeBytes_get (data : LineData) (off : Nat) (mask : List Bool) (bytes : List Byte) (k : Fin 64) :
    (writeBytes data off mask bytes)[k] =
      if off ≤ k.val ∧ mask[k.val - off]? = some true then bytes[k.val - off]?.getD data[k] else data[k] := by
  have hl : (data.toList.take off ++ overlay (data.toList.drop off) mask bytes).length = 64 := by
    simp [overlay_length]; omega
  have hk : data.toList[k.val]? = some data[k] := by simp
  rw [writeBytes, lineDataOf_get hl, ← Option.some_inj, ← List.getElem?_eq_getElem]
  by_cases h : off ≤ k.val
  · rw [List.getElem?_append_right (by simp; omega), overlay_getElem?]
    have hm : min off data.toList.length = off := by simp; omega
    rw [List.length_take, hm, List.getElem?_drop, Nat.add_sub_cancel' h, hk]
    simp only [Option.map_some, h, true_and]
  · rw [List.getElem?_append_left (by simp; omega), List.getElem?_take_of_lt (by omega), hk]
    simp [h]

/-- The bytes that a read takes (R2). -/
theorem lineBytes_getElem? {len i : Nat} (data : LineData) (off : Nat) (h : i < len) :
    (lineBytes data off len)[i]? = data[off + i]? := by
  simp [lineBytes, List.getElem?_take_of_lt h]

theorem lineBytes_length {off len : Nat} (data : LineData) (h : off + len ≤ 64) :
    (lineBytes data off len).length = len := by
  simp [lineBytes]; omega

/-! ### Quantities (R2) -/

/-- Bit `j` of a number out of bytes is bit `j` modulo 8 of byte `j` / 8. -/
theorem leNat_testBit (l : List Byte) (j : Nat) : (leNat l).testBit j = (byteAt l (j / 8)).getLsbD (j % 8) := by
  induction l generalizing j with
  | nil => simp [leNat, byteAt]
  | cons b l ih =>
    have hb := b.isLt
    by_cases hj : j < 8
    · rw [Nat.div_eq_of_lt hj, Nat.mod_eq_of_lt hj, leNat, show 256 = 2 ^ 8 from rfl, Nat.add_comm,
        Nat.testBit_two_pow_mul_add _ hb, if_pos hj]
      rfl
    · obtain ⟨j, rfl⟩ : ∃ i, j = i + 8 := ⟨j - 8, by omega⟩
      rw [leNat, show 256 = 2 ^ 8 from rfl, Nat.add_comm, Nat.testBit_two_pow_mul_add _ hb, if_neg hj,
        Nat.add_sub_cancel, ih, show (j + 8) / 8 = j / 8 + 1 by omega, Nat.add_mod_right]
      rfl

/-- Byte `i` of a number written in bytes. -/
theorem leBytes_getElem? {i : Nat} (v : BitVec 64) (h : i < 8) :
    (leBytes 8 v.toNat)[i]? = some (v.extractLsb' (8 * i) 8) := by
  have hb : byteAt (leBytes 8 v.toNat) i = v.extractLsb' (8 * i) 8 := by
    refine BitVec.eq_of_getLsbD_eq fun j hj => ?_
    have hd : (8 * i + j) / 8 = i ∧ (8 * i + j) % 8 = j := by omega
    have e := leBytes_bit (k := 8) (i := 8 * i + j) v.toNat (by omega)
    rw [hd.1, hd.2] at e
    rw [e, BitVec.getLsbD_extractLsb']
    simp [hj, BitVec.getLsbD]
  rw [← hb, byteAt, List.getD_eq_getElem?_getD, List.getElem?_eq_getElem (by simpa using h)]
  rfl

/-- Byte `i` of the quantity at an offset is byte `i` of the line from there. -/
theorem quantityAt_byte {off i : Nat} (data : LineData) (ho : off + 8 ≤ 64) (h : i < 8) :
    data[off + i]? = some ((quantityAt data off).extractLsb' (8 * i) 8) := by
  have hb : byteAt (lineBytes data off 8) i = (quantityAt data off).extractLsb' (8 * i) 8 := by
    refine BitVec.eq_of_getLsbD_eq fun j hj => ?_
    have hd : (8 * i + j) / 8 = i ∧ (8 * i + j) % 8 = j := by omega
    have e := leNat_testBit (lineBytes data off 8) (8 * i + j)
    rw [hd.1, hd.2] at e
    rw [← e, BitVec.getLsbD_extractLsb', quantityAt, BitVec.getLsbD_ofNat]
    simp [hj]; omega
  have hl := lineBytes_getElem? data off h
  rw [← hl, ← hb, byteAt, List.getD_eq_getElem?_getD,
    List.getElem?_eq_getElem (by rw [lineBytes_length data ho]; exact h)]
  rfl

/-- A byte of a line after an atomic (R2, R45). -/
theorem writeQuantity_get {off : Nat} (data : LineData) (v : BitVec 64) (k : Fin 64) :
    (writeQuantity data off v)[k] =
      if off ≤ k.val ∧ k.val < off + 8 then v.extractLsb' (8 * (k.val - off)) 8 else data[k] := by
  rw [writeQuantity, writeBytes_get]
  by_cases h : off ≤ k.val ∧ k.val < off + 8
  · have hi : k.val - off < 8 := by omega
    rw [if_pos h, if_pos ⟨h.1, by rw [List.getElem?_replicate, if_pos hi]⟩, leBytes_getElem? v hi]
    rfl
  · have hm : ¬ (off ≤ k.val ∧ (List.replicate 8 true)[k.val - off]? = some true) := by
      rw [List.getElem?_replicate]
      simp; omega
    rw [if_neg h, if_neg hm]

/-! ### The write that finds its line in X or M (R44, R45) -/

/-- A request that finds its line in X or M is performed there, the way moved to the front (R42, R44 to R46). -/
theorem directory_exclusive {s : State} {w : Waiter} {x : Addr} {l : Loc} {st : CopyState} {data : LineData}
    (he : s.inEvictionBuffer x = false) (hp : s.foreignPin w.requester x = false) (hr : Resident s x l st data)
    (hs : st = .x ∨ st = .m) : s.directory w x = (s.touch l).perform w l x data := by
  obtain ⟨hl, hw⟩ := hr
  have hc : (s.wayAt l).isCleanCopy = false := by rw [hw]; rcases hs with rfl | rfl <;> rfl
  rw [directory_resident he hp hl (.inr (.inl hc)), resident_exclusive hw hs]

/-- While the near link is UP, the answer to a request at step 7 is a response to the request (R3, R60). -/
theorem answerWaiter_waiterOf {s : State} {q : Request} {a : Access} (hn : s.nearLink = .up)
    (ha : a.kind = q.body.kind) (st : RespStatus) (bytes : List Byte) :
    s.answerWaiter (waiterOf q a) st bytes = responding s q st bytes := by
  rw [answerWaiter_eq, egressAfter_up hn, responding, waiterOf, ha]

/-- The same after the way has moved to the front and been replaced: but for the directory, the state is as before. -/
theorem answerWaiter_touch_putWay {s : State} {q : Request} {a : Access} (hn : s.nearLink = .up)
    (ha : a.kind = q.body.kind) (l : Loc) (w : Way) (bytes : List Byte) :
    ((s.touch l).putWay l w).answerWaiter (waiterOf q a) .ok bytes =
      responding { s with dir := ((s.touch l).putWay l w).dir } q .ok bytes :=
  answerWaiter_waiterOf (s := (s.touch l).putWay l w) hn ha .ok bytes

/-- Settles O24: the byte laws, and the two writes through `directory_exclusive`. -/
theorem writesAndAtomicsAreApplied : Obligations.WritesAndAtomicsAreApplied := by
  refine ⟨fun data off mask bytes k => ⟨?_, ?_⟩,
    fun data off len => ⟨lineBytes_length data, fun i hi => lineBytes_getElem? data off hi⟩,
    fun data off v ho => ⟨fun i hi => quantityAt_byte data ho hi, writeQuantity_get data v, leBytes_length ..,
      fun i hi => leBytes_getElem? v hi⟩,
    fun old v w => ⟨BitVec.toNat_add .., rfl, fun h => if_pos h, fun h => if_neg h⟩, ?_⟩
  · intro i b hk hm hb
    have hi : k.val - off = i := by omega
    rw [writeBytes_get, hi, if_pos ⟨by omega, hm⟩, hb]
    rfl
  · intro h
    rw [writeBytes_get]
    split
    · next hc => rw [h _ (by omega) hc.2]; rfl
    · rfl
  · intro q c s u done loc st data hc hd ⟨he, hp⟩ hf hr hs
    have hu := comes_nearLink hc
    refine ⟨fun len mask bytes hb => ⟨_, setBecomes_touch_putWay hf loc _, ?_⟩,
      fun op hb => ⟨_, setBecomes_touch_putWay hf loc _, ?_⟩⟩
    · have e : u.pastWindow q = u.directory (waiterOf q (.write len mask bytes)) (lineOf q.addr) := by
        simp only [State.pastWindow, hb]
        rfl
      have ha : (Access.write len mask bytes).kind = q.body.kind := by rw [hb]; rfl
      rw [exec_comes_past hc hd, e, directory_exclusive he hp hr hs]
      exact congrArg (fun t => Host.Outcome.next (done t)) (answerWaiter_touch_putWay hu ha ..)
    · have e : u.pastWindow q = u.directory (waiterOf q (.atomic op)) (lineOf q.addr) := by
        simp only [State.pastWindow, hb]
        rfl
      have ha : (Access.atomic op).kind = q.body.kind := by rw [hb]; rfl
      rw [exec_comes_past hc hd, e, directory_exclusive he hp hr hs]
      exact congrArg (fun t => Host.Outcome.next (done t)) (answerWaiter_touch_putWay hu ha ..)

end Sys2Proof.Machine
end

section
/-! SUPPORT. POP_CAPTURE, RELEASE_HOLD and DISCARD_HOLD (R134, R137, R138). -/

namespace Sys2Proof.Machine

open Sys2Proof.Safety

/-! ### A READ served at the directory -/

/-- A READ that finds its line in S, X, M or CLEANING is answered OK with its bytes, and the way moves to the front,
however it comes to the window check (R43). -/
theorem exec_comes_read {q : Request} {c : Instr} {s u : State} {done : State → State} {len : Nat} {loc : Loc}
    {st : CopyState} {data : LineData} (hc : ComesToWindow q c s u done) (hb : q.body = .read len)
    (hd : ReachesDirectory u q) (ho : Unobstructed u q) (hr : Resident u (lineOf q.addr) loc st data)
    (hs : st ≠ .upgrade) :
    exec c s = .next (done (responding { u with dir := (u.touch loc).dir } q .ok
      (lineBytes data (offsetOf q.addr) len))) := by
  obtain ⟨he, hp⟩ := ho
  obtain ⟨hl, hw⟩ := hr
  have hu := comes_nearLink hc
  have hk : (Access.read len).kind = q.body.kind := by rw [hb]; rfl
  have e : u.pastWindow q = u.directory (waiterOf q (.read len)) (lineOf q.addr) := by
    simp only [State.pastWindow, hb]
    rfl
  rw [exec_comes_past hc hd, e, directory_resident he hp hl (.inr (.inr rfl)), resident_read hw rfl hs]
  exact congrArg (fun t => Host.Outcome.next (done t))
    (answerWaiter_waiterOf (s := u.touch loc) hu hk .ok (lineBytes data (offsetOf q.addr) len))

/-! ### The slot that a command names -/

theorem index?_of_eq {n k : Nat} {i : Fin n} (h : k = i.val) : index? n k = some i := by
  subst h
  simp [index?]

theorem index?_of_ge {n k : Nat} (h : n ≤ k) : index? n k = none := by
  simp [index?, Nat.not_lt.2 h]

/-! ### The three commands, taken from a manager -/

section commands

variable {s : State} {p : Packet} {rest : List Packet} (hm : FromManager s p)
include hm

theorem exec_popCapture (h : TakesCommand s p rest 9) :
    exec .popCapture s = .next (runPopCapture (credited s p rest) p) := by
  have e := exec_command h hm
  have hc : (commandByte p).toNat = 9 := by rw [h.2.2.2.1]; rfl
  simpa only [managementStep, managementRun, hc] using e

theorem exec_releaseHold (h : TakesCommand s p rest 10) : managementStep p = .releaseHold ∧
    exec .releaseHold s = .next (runReleaseHold (credited s p rest) p) := by
  have e := exec_command h hm
  have hc : (commandByte p).toNat = 10 := by rw [h.2.2.2.1]; rfl
  simp only [managementStep, managementRun, hc] at e ⊢
  exact ⟨trivial, e⟩

theorem exec_discardHold (h : TakesCommand s p rest 11) : managementStep p = .discardHold ∧
    exec .discardHold s = .next (runDiscardHold (credited s p rest) p) := by
  have e := exec_command h hm
  have hc : (commandByte p).toNat = 11 := by rw [h.2.2.2.1]; rfl
  simp only [managementStep, managementRun, hc] at e ⊢
  exact ⟨trivial, e⟩

end commands

/-- RELEASE_HOLD and DISCARD_HOLD of an index out of range (R153). -/
theorem runHold_outOfRange {s : State} {p : Packet} (h : 4 ≤ slotByte p) :
    runReleaseHold s p = s.reply p .invalidEntry ∧ runDiscardHold s p = s.reply p .invalidEntry := by
  simp only [runReleaseHold, runDiscardHold, index?_of_ge h, and_self]

/-- RELEASE_HOLD and DISCARD_HOLD of a free slot (R153). -/
theorem runHold_free {s : State} {p : Packet} {i : Fin 4} (h : slotByte p = i.val) (hf : s.holds[i] = none) :
    runReleaseHold s p = s.reply p .notFound ∧ runDiscardHold s p = s.reply p .notFound := by
  simp only [runReleaseHold, runDiscardHold, index?_of_eq h, hf, and_self]

/-- DISCARD_HOLD of a held request: it is answered WATCH_DISCARD, then the reply (R138). -/
theorem runDiscardHold_held {s : State} {p : Packet} {i : Fin 4} {q : Request} (hn : s.nearLink = .up)
    (h : slotByte p = i.val) (hq : s.holds[i] = some q) : runDiscardHold s p =
      replying (responding { s with holds := upd s.holds i none } q .watchDiscard) p .ok
        (.held q.requester q.id) := by
  simp only [runDiscardHold, index?_of_eq h, hq]
  rw [answer_eq (by exact hn), reply_eq (by exact hn)]

/-- RELEASE_HOLD of a held request in ISOLATED (R13, R14). -/
theorem runReleaseHold_isolated {s : State} {p : Packet} {i : Fin 4} {q : Request} (hn : s.nearLink = .up)
    (h : slotByte p = i.val) (hq : s.holds[i] = some q) (hm : s.mode = .isolated) : runReleaseHold s p =
      replying (responding { s with holds := upd s.holds i none } q .isolated) p .ok (.held q.requester q.id) := by
  simp only [runReleaseHold, index?_of_eq h, hq, State.admitFromMode, hm]
  rw [answer_eq (by exact hn), reply_eq (by exact hn)]

/-- RELEASE_HOLD of a held request in OPERATING goes on to the window check (R14). -/
theorem comes_released {s : State} {p : Packet} {rest : List Packet} {i : Fin 4} {q : Request}
    (h : TakesCommand s p rest 10) (hm : FromManager s p) (hi : slotByte p = i.val) (hq : s.holds[i] = some q)
    (ho : s.mode = .operating) :
    ComesToWindow q .releaseHold s { credited s p rest with holds := upd s.holds i none }
      (fun t => replying t p .ok (.held q.requester q.id)) := .released h hm hi hq ho

/-- Settles O57: the captures, the refusals of both hold commands, and the held request by the mode. -/
theorem capturesAndHoldsAreServed : Obligations.CapturesAndHoldsAreServed := by
  intro s p rest hm
  have hr {n : Byte} (h : TakesCommand s p rest n) (st : MgmtStatus) (f : ReplyFields) :
      (credited s p rest).reply p st f = replying (credited s p rest) p st f :=
    reply_eq (s := credited s p rest) h.1 p st f
  refine ⟨fun h => ⟨fun c left hc => ?_, fun hc => ?_⟩, fun h => ⟨fun hi => ?_, fun i hi hf => ?_⟩,
    fun i q hi hq => ⟨fun h => ?_, fun h => ⟨fun ho => ?_, fun ho => ?_, fun ho hx hd => ?_,
      fun len loc st data ho hb hd hu hf hres hst => ?_⟩⟩⟩
  · rw [exec_popCapture hm h, runPopCapture, credited_captures, hc]
    exact congrArg _ (reply_eq (s := { credited s p rest with captures := left }) h.1 ..)
  · rw [exec_popCapture hm h, runPopCapture, credited_captures, hc]
    exact congrArg _ (hr h ..)
  · rcases h with h | h
    · rw [(exec_releaseHold hm h).1, (exec_releaseHold hm h).2, (runHold_outOfRange hi).1, hr h]
    · rw [(exec_discardHold hm h).1, (exec_discardHold hm h).2, (runHold_outOfRange hi).2, hr h]
  · rcases h with h | h
    · rw [(exec_releaseHold hm h).1, (exec_releaseHold hm h).2, (runHold_free (s := credited s p rest) hi hf).1, hr h]
    · rw [(exec_discardHold hm h).1, (exec_discardHold hm h).2, (runHold_free (s := credited s p rest) hi hf).2, hr h]
  · rw [(exec_discardHold hm h).2, runDiscardHold_held (s := credited s p rest) h.1 hi hq]
    rfl
  · rw [(exec_releaseHold hm h).2, runReleaseHold_isolated (s := credited s p rest) h.1 hi hq ho]
    rfl
  · exact exec_comes (comes_released h hm hi hq ho)
  · exact exec_comes_denied (comes_released h hm hi hq ho) hx hd
  · have hc := comes_released h hm hi hq ho
    refine ⟨_, setBecomes_touch hf loc, ?_⟩
    exact exec_comes_read hc hb hd hu hres (by rintro rfl; simp at hst)

end Sys2Proof.Machine
end

section
/-! SUPPORT. TRAFFIC_RESET (R172): what it abandons, and that freeing the waiters' pin records loses no recall. -/

namespace Sys2Proof.Machine

open Sys2Proof.Safety

/-! ### The pin records of waiters hold no deferred recall -/

/-- The records after those of a waiter list are freed (R116). -/
theorem pinsWithout_get (pins : Vector (Option Pin) 4) (ws : List Waiter) (i : Fin 4) :
    (pinsWithout pins ws)[i] = if ∃ w ∈ ws, Waiter.pin? w = some i then none else pins[i] := by
  induction ws generalizing pins with
  | nil => simp [pinsWithout]
  | cons w ws ih =>
    have hw : (pinsWithout pins [w])[i] = if Waiter.pin? w = some i then none else pins[i] := by
      cases hp : Waiter.pin? w with
      | none => simp [pinsWithout, hp]
      | some j => simp [pinsWithout, hp, upd_get, -Fin.getElem_fin]
    rw [pinsWithout_cons, ih, hw]
    by_cases h : Waiter.pin? w = some i <;> simp [h]

/-- Tables that agree in what `f` finds in each entry agree in all that it finds. -/
theorem filterMap_table_congr {α β : Type} {n : Nat} {u v : Vector α n} {f : α → Option β}
    (h : ∀ i : Fin n, f u[i] = f v[i]) : u.toList.filterMap f = v.toList.filterMap f := by
  have hm : u.toList.map f = v.toList.map f :=
    List.ext_getElem (by simp) fun i hi _ => by simpa using h ⟨i, by simpa using hi⟩
  simpa only [List.filterMap_map, Function.id_comp] using congrArg (List.filterMap id) hm

/-- A waiter of some list waits in an ISSUED entry. -/
theorem mem_allWaiters {s : State} {w : Waiter} (h : w ∈ s.allWaiters) :
    ∃ g : Tag, ∃ t ∈ TxnEntry.txn? s.txns[g], w ∈ t.waiters := by
  obtain ⟨e, he, hw⟩ := List.mem_flatMap.1 h
  obtain ⟨g, hg, rfl⟩ := List.getElem_of_mem he
  refine ⟨⟨g, by simpa using hg⟩, ?_⟩
  simp only [Vector.getElem_toList] at hw
  simp only [Fin.getElem_fin]
  cases hx : s.txns[g]'(by simpa using hg) with
  | issued t => rw [hx] at hw; exact ⟨t, rfl, hw⟩
  | free => rw [hx] at hw; cases hw
  | orphaned => rw [hx] at hw; cases hw

/-- R60: freeing the waiters' records, which are WAITING, loses no deferred recall. -/
theorem unacknowledged_pinsWithout {s : State} (h : Coherent s) :
    ({ s with pins := pinsWithout s.pins s.allWaiters } : State).unacknowledged = s.unacknowledged := by
  have hd : (pinsWithout s.pins s.allWaiters).toList.filterMap (fun p => p.bind Pin.deferred?) =
      s.pins.toList.filterMap fun p => p.bind Pin.deferred? := by
    refine filterMap_table_congr fun i => ?_
    rw [pinsWithout_get]
    split
    · next hw =>
      obtain ⟨w, hw, hi⟩ := hw
      obtain ⟨g, t, ht, hwt⟩ := mem_allWaiters hw
      obtain ⟨p, hp, -, -, hst, -⟩ := h.listedWaits g t ht w hwt i hi
      rw [Option.mem_def.1 hp]
      simp [Pin.deferred?, hst]
    · rfl
  exact congrArg (s.recallQueue ++ s.notedRecalls ++ ·) hd

/-! ### The command -/

/-- An entry after a traffic reset: FREE stays, every other is ORPHANED (R88). -/
theorem orphan_eq (e : TxnEntry) : e.orphan = if e = .free then .free else .orphaned := by
  cases e <;> rfl

theorem exec_trafficReset {s : State} {p : Packet} {rest : List Packet} (hm : FromManager s p)
    (h : TakesCommand s p rest 13) :
    exec .trafficReset s = .next (runTrafficReset (credited s p rest) p) := by
  have e := exec_command h hm
  have hc : (commandByte p).toNat = 13 := by rw [h.2.2.2.1]; rfl
  simpa only [managementStep, managementRun, hc] using e

/-- Settles O59: the one record update of `trafficReset_eq`, the recalls by `unacknowledged_pinsWithout`. -/
theorem trafficResetAbandonsTraffic : Obligations.TrafficResetAbandonsTraffic := by
  intro s p rest hco h hm
  refine ⟨[], fun _ => rfl, mapTable TxnEntry.orphan s.txns, fun g => ?_, creditsAfter s.credits s.ingress,
    fun r => creditsAfter_get .., ?_⟩
  · rw [mapTable_get, orphan_eq]
  · obtain ⟨hn, hi, -⟩ := id h
    rw [exec_trafficReset hm h, runTrafficReset, trafficReset_eq (s := credited s p rest) hn, reply_eq (by exact hn),
      ← unacknowledged_pinsWithout hco, hi]
    rfl

end Sys2Proof.Machine
end

section
/-! SUPPORT. The link reports and REATTACH (R16, R17, R166, R169, R171, R174), and the end of the ACTIVE pins at the loss
of the near link (R102, R174). -/

namespace Sys2Proof.Machine

open Sys2Proof.Safety

/-! ### The lookup (R41) -/

/-- The lookup finds the line's way of lowest number in the line's set. -/
theorem lookup_eq_some {s : State} {x : Addr} {l : Loc} : s.lookup x = some l ↔
    l.set = setIndex x ∧ (s.wayAt l).line? = some x ∧
      ∀ v < l.way, (s.wayAt { set := l.set, way := v }).line? ≠ some x := by
  obtain ⟨i, w⟩ := l
  simp only [State.lookup, State.wayAt, Option.map_eq_some_iff, lowest_eq_some, beq_iff_eq, Loc.mk.injEq,
    beq_eq_false_iff_ne]
  constructor
  · rintro ⟨v, ⟨hv, hl⟩, rfl, rfl⟩
    exact ⟨rfl, hv, hl⟩
  · rintro ⟨rfl, hv, hl⟩
    exact ⟨w, ⟨hv, hl⟩, rfl, rfl⟩

/-- Another way replaced by one that does not hold the line: the lookup finds the line where it was. -/
theorem lookup_putWay_other {s : State} {x : Addr} {l m : Loc} {w : Way} (hf : dirWf s.dir = true)
    (h : s.lookup x = some m) (hne : l ≠ m) (hw : w.line? ≠ some x) : (s.putWay l w).lookup x = some m := by
  obtain ⟨hs, hm, hl⟩ := lookup_eq_some.1 h
  refine lookup_eq_some.2 ⟨hs, ?_, fun v hv => ?_⟩
  · rw [wayAt_putWay s l m w hf, if_neg hne]
    exact hm
  · rw [wayAt_putWay s _ _ w hf]
    split
    · exact hw
    · exact hl v hv

/-- A set that holds something is listed. -/
theorem mem_of_readSet_ne {d : List (Fin 1024 × DirSet)} {i : Fin 1024} (h : readSet d i ≠ DirSet.reset) :
    (i, readSet d i) ∈ d := by
  induction d with
  | nil => exact absurd rfl h
  | cons e t ih =>
    obtain ⟨j, v⟩ := e
    by_cases hj : j = i
    · subst hj; simp [readSet]
    · simp only [readSet, if_neg hj] at h ⊢
      exact List.mem_cons_of_mem _ (ih h)

/-- R35, R36: in a coherent state the lookup finds a line in the way that holds it. -/
theorem lookup_of_holds {s : State} (h : Coherent s) {l : Loc} {x : Addr} (hw : (s.wayAt l).line? = some x) :
    s.lookup x = some l := by
  have hr : readSet s.dir l.set ≠ DirSet.reset := by
    intro e
    rw [State.wayAt, e] at hw
    simp [DirSet.reset, Way.line?] at hw
  have hmem := mem_of_readSet_ne hr
  refine lookup_eq_some.2 ⟨((h.inSet _ hmem l.way x hw).1).symm, hw, fun v hv hx => ?_⟩
  exact hv.ne (h.oneWay _ hmem v l.way x hx hw)

/-- A replaced way leaves every LRU order list as it was. -/
theorem lru_putWay {s : State} (hf : dirWf s.dir = true) (l : Loc) (w : Way) (i : Fin 1024) :
    (readSet (s.putWay l w).dir i).lru = (readSet s.dir i).lru := by
  rw [State.putWay_dir, readSet_writeSet _ _ _ _ hf]
  split
  · next h => subst h; rfl
  · rfl

/-! ### The end of the ACTIVE pins, one record at a time (R174) -/

/-- A held record is freed and its deferred recall applied. -/
def State.clearPin (s : State) (i : Fin 4) : State :=
  match s.pins[i] with
  | some p => s.endPin i p.deferred?
  | none => s

theorem clearPins_eq (s : State) : s.clearPins = (List.finRange 4).foldl State.clearPin s := rfl

theorem clearPin_free {s : State} {i : Fin 4} (h : s.pins[i] = none) : s.clearPin i = s := by
  simp only [State.clearPin, h]

/-- A record without a deferred recall is freed. -/
theorem clearPin_plain {s : State} {i : Fin 4} (h : (s.pins[i]).bind Pin.deferred? = none) :
    s.clearPin i = s.putPin i none := by
  cases hp : s.pins[i] with
  | none =>
    have e : upd s.pins i none = s.pins := by rw [← hp, upd_self]
    rw [clearPin_free hp, State.putPin, e]
  | some p =>
    rw [hp] at h
    simp only [State.clearPin, hp, State.endPin]
    rw [show p.deferred? = none from h]
    rfl

/-- Where no record holds a deferred recall, all are freed and nothing else changes. -/
theorem clearPins_plain {s : State} (h : ∀ i : Fin 4, (s.pins[i]).bind Pin.deferred? = none) :
    s.clearPins = { s with pins := Vector.replicate 4 none } := by
  have key (l : List (Fin 4)) (u : State) (hu : ∀ i : Fin 4, (u.pins[i]).bind Pin.deferred? = none) :
      l.foldl State.clearPin u = { u with pins := l.foldl (fun v i => upd v i none) u.pins } := by
    induction l generalizing u with
    | nil => rfl
    | cons i l ih =>
      have hu' (j : Fin 4) : ((u.putPin i none).pins[j]).bind Pin.deferred? = none := by
        rw [State.putPin_pins, upd_get]
        split
        · rfl
        · exact hu j
      rw [List.foldl_cons, clearPin_plain (hu i), ih _ hu']
      rfl
  have hp : (List.finRange 4).foldl (fun v i => upd v i none) s.pins = Vector.replicate 4 none := by
    refine table_ext fun j => ?_
    simp only [List.finRange_succ, List.finRange_zero, List.map_cons, List.map_nil, List.foldl_cons, List.foldl_nil,
      upd_get, replicate_get]
    fin_cases j <;> rfl
  rw [clearPins_eq, key _ s h, hp]

/-- What the end of the pins rests on: a deferred recall names the line that its pin's way holds in X or M, where the
lookup finds it, and no other ACTIVE pin is on the way (R112, R117). -/
structure DefersOnItsWay (s : State) : Prop where
  form : dirWf s.dir = true
  holds : ∀ i : Fin 4, ∀ p ∈ s.pins[i], ∀ l v, defersAt l v p →
    s.lookup v.line = some l ∧ ∃ st data, s.wayAt l = .copy st v.line data ∧ (st = .x ∨ st = .m)
  alone : ∀ i : Fin 4, ∀ p ∈ s.pins[i], ∀ l v, defersAt l v p →
    ∀ j : Fin 4, ∀ q ∈ s.pins[j], q.activeAt l = true → j = i

theorem activeAt_of_defersAt {l : Loc} {v : RecallRecord} {p : Pin} (h : defersAt l v p) : p.activeAt l = true := by
  obtain ⟨d, h⟩ := h
  simp [Pin.activeAt, h]

/-- A way from which a recall was applied holds at most the line that it held. -/
theorem line?_afterRecall {k : RecallKind} {x y : Addr} {data : LineData} (h : (afterRecall k x data).line? = some y) :
    x = y := by
  cases k
  · exact Option.some.inj h
  · cases h

/-- The state after one held record has ended: the record is free, the directory is `d`, and its deferred recall, if it
holds one, is acknowledged and counted off (R102). -/
def State.pinEnded (s : State) (i : Fin 4) (d : List (Fin 1024 × DirSet)) : State :=
  { s with pins := upd s.pins i none, dir := d, ackCh := ackChAfter s (deferredAck s i)
           recallCount := s.recallCount - (deferredAck s i).length }

/-- What the end of the pins that `ended` names does to the directory: the recall that a pin defers is applied to its
way, every other way stands, and so does every LRU order list. -/
structure AppliesDeferred (s : State) (ended : Fin 4 → Prop) (d : List (Fin 1024 × DirSet)) : Prop where
  lru : ∀ i, (readSet d i).lru = (readSet s.dir i).lru
  applied : ∀ i, ended i → ∀ p ∈ s.pins[i], ∀ l v, defersAt l v p → ∀ st x data, s.wayAt l = .copy st x data →
    (readSet d l.set).ways[l.way] = afterRecall v.kind x data
  kept : ∀ l : Loc, (∀ i, ended i → ∀ p ∈ s.pins[i], ∀ v, ¬ defersAt l v p) →
    (readSet d l.set).ways[l.way] = s.wayAt l

theorem deferredAck_plain {s : State} {i : Fin 4} (h : (s.pins[i]).bind Pin.deferred? = none) :
    deferredAck s i = [] := by
  unfold deferredAck
  cases hp : s.pins[i] with
  | none => rfl
  | some p =>
    rw [hp, Option.bind_some, Pin.deferred?] at h
    simp only [Option.map_some]
    split
    · next hst => rw [Option.some.injEq] at hst; rw [hst] at h; cases h
    · rfl

/-- The acknowledgement of a deferred recall whose way is X or M (R102). -/
theorem deferredAck_eq {s : State} {i : Fin 4} {p : Pin} {l : Loc} {v : RecallRecord} {st : CopyState} {x : Addr}
    {data : LineData} (hp : s.pins[i] = some p) (hd : defersAt l v p) (hw : s.wayAt l = .copy st x data)
    (hs : st = .x ∨ st = .m) (pending : Bool) :
    deferredAck s i = [{ id := v.id, status := recallAck pending st data }] := by
  obtain ⟨deadline, hd⟩ := hd
  simp only [deferredAck, hp, Option.map_some, hd, hw]
  rcases hs with rfl | rfl <;> rfl

/-- A pin record defers a recall at some way, or holds none. -/
theorem deferred?_cases (s : State) (i : Fin 4) :
    (s.pins[i]).bind Pin.deferred? = none ∨ ∃ p, s.pins[i] = some p ∧ ∃ l v, defersAt l v p := by
  cases hp : s.pins[i] with
  | none => exact .inl rfl
  | some p =>
    simp only [Option.bind_some, Option.some.injEq, Pin.deferred?, defersAt]
    cases hst : p.st with
    | waiting l => exact .inl rfl
    | active l d r =>
      cases r with
      | none => exact .inl rfl
      | some v => exact .inr ⟨p, rfl, l, v, d, hst⟩

theorem not_defersAt_of_plain {s : State} {i : Fin 4} (h : (s.pins[i]).bind Pin.deferred? = none) {p : Pin}
    (hp : p ∈ s.pins[i]) (l : Loc) (v : RecallRecord) : ¬ defersAt l v p := by
  rintro ⟨d, hd⟩
  rw [Option.mem_def.1 hp, Option.bind_some, Pin.deferred?, hd] at h
  cases h

/-- A pin whose recall is deferred ends: the recall is applied to the way (R102). -/
theorem clearPin_deferred {s : State} (h : DefersOnItsWay s) {i : Fin 4} {p : Pin} {l : Loc} {v : RecallRecord}
    {st : CopyState} {data : LineData} (hp : s.pins[i] = some p) (hd : defersAt l v p)
    (hw : s.wayAt l = .copy st v.line data) (hs : st = .x ∨ st = .m) :
    s.clearPin i = s.pinEnded i (s.putWay l (afterRecall v.kind v.line data)).dir := by
  have hl : (s.putPin i none).lookup v.line = some l := (h.holds i p hp l v hd).1
  have ha : (s.putPin i none).activePinAt l = none := by
    refine lowest_eq_none.2 fun j => ?_
    rw [State.putPin_pins, upd_get]
    split
    · rfl
    · next hij =>
      cases hq : s.pins[j] with
      | none => rfl
      | some q =>
        by_contra hc
        exact hij (h.alone i p hp l v hd j q hq (by simpa using hc)).symm
  have hv : p.deferred? = some v := by
    obtain ⟨deadline, hd⟩ := hd
    simp only [Pin.deferred?, hd]
  simp only [State.clearPin, hp, State.endPin, hv, State.applyHeldRecall]
  rw [applyRecall_copy hl ha hw, recallCopy_stable (by rintro rfl; simp at hs), State.pinEnded,
    deferredAck_eq hp hd hw hs ((s.putPin i none).writebackPending v.line)]
  rfl

/-- One record after the other (R174): what each end leaves, and that the records behind it defer as before. -/
theorem clearPin_step {s : State} (h : DefersOnItsWay s) (i : Fin 4) :
    ∃ d, s.clearPin i = s.pinEnded i d ∧ DefersOnItsWay (s.pinEnded i d) ∧ AppliesDeferred s (· = i) d ∧
      ∀ j, j ≠ i → deferredAck (s.pinEnded i d) j = deferredAck s j := by
  have old {d : List (Fin 1024 × DirSet)} {j : Fin 4} {q : Pin} (hq : q ∈ (s.pinEnded i d).pins[j]) :
      q ∈ s.pins[j] ∧ j ≠ i := by
    rw [show (s.pinEnded i d).pins = upd s.pins i none from rfl, upd_get] at hq
    split at hq
    · cases hq
    · next hij => exact ⟨hq, Ne.symm hij⟩
  rcases deferred?_cases s i with hn | ⟨p, hp, l, v, hd⟩
  · refine ⟨s.dir, ?_, ⟨h.form, fun j q hq => h.holds j q (old hq).1,
      fun j q hq m r hr k q' hq' => h.alone j q (old hq).1 m r hr k q' (old hq').1⟩,
      ⟨fun _ => rfl, ?_, fun _ _ => rfl⟩, fun j hj => ?_⟩
    · rw [clearPin_plain hn, State.pinEnded, deferredAck_plain hn]
      simp [State.putPin]
    · rintro j rfl q hq m r hr
      exact absurd hr (not_defersAt_of_plain hn hq m r)
    · simp only [deferredAck]
      rw [show (s.pinEnded i s.dir).pins = upd s.pins i none from rfl, upd_other _ _ _ _ hj.symm]
      rfl
  · obtain ⟨hl, st, data, hw, hs⟩ := h.holds i p hp l v hd
    have hway (m : Loc) : (s.pinEnded i (s.putWay l (afterRecall v.kind v.line data)).dir).wayAt m =
        if l = m then afterRecall v.kind v.line data else s.wayAt m := wayAt_putWay s l m _ h.form
    have apart {j : Fin 4} {q : Pin} {m : Loc} {r : RecallRecord} (hq : q ∈ s.pins[j]) (hj : j ≠ i)
        (hr : defersAt m r q) : l ≠ m := by
      rintro rfl
      exact hj (h.alone i p hp l v hd j q hq (activeAt_of_defersAt hr))
    refine ⟨_, clearPin_deferred h hp hd hw hs, ⟨dirWf_putWay s l _ h.form, fun j q hq m r hr => ?_,
      fun j q hq m r hr k q' hq' => h.alone j q (old hq).1 m r hr k q' (old hq').1⟩,
      ⟨lru_putWay h.form l _, ?_, fun m hm => ?_⟩, fun j hj => ?_⟩
    · obtain ⟨hq, hj⟩ := old hq
      have hne := apart hq hj hr
      obtain ⟨hlm, st', data', hw', hs'⟩ := h.holds j q hq m r hr
      refine ⟨lookup_putWay_other h.form hlm hne fun hx => ?_, st', data', ?_, hs'⟩
      · rw [line?_afterRecall hx, hlm] at hl
        exact hne (Option.some.inj hl).symm
      · rw [hway, if_neg hne, hw']
    · rintro j rfl q hq m r ⟨dl, hr⟩ st' x' data' hx
      obtain rfl : p = q := Option.some.inj (hp.symm.trans hq)
      obtain ⟨dl', hd'⟩ := hd
      obtain ⟨rfl, -, hvr⟩ := PinState.active.inj (hd'.symm.trans hr)
      obtain rfl := Option.some.inj hvr
      obtain ⟨-, rfl, rfl⟩ := Way.copy.inj (hw.symm.trans hx)
      exact (hway l).trans (if_pos rfl)
    · have hne : l ≠ m := by
        rintro rfl
        exact hm i rfl p hp v hd
      exact (hway m).trans (if_neg hne)
    · unfold deferredAck
      rw [show (s.pinEnded i _).pins = upd s.pins i none from rfl, upd_other _ _ _ _ hj.symm]
      cases hq : s.pins[j] with
      | none => rfl
      | some q =>
        simp only [Option.map_some]
        split
        · next m dl r hst =>
          rw [hway, if_neg (apart hq hj ⟨dl, Option.some.inj hst⟩)]
        · rfl

/-- R174: the records of a list end one after the other. -/
theorem clearPins_deferred (l : List (Fin 4)) (s : State) (h : DefersOnItsWay s) (hl : l.Nodup)
    (ho : ∀ j, j ∉ l → s.pins[j] = none) :
    ∃ d, AppliesDeferred s (fun _ => True) d ∧ l.foldl State.clearPin s = { s with
      pins := Vector.replicate 4 none, dir := d, ackCh := ackChAfter s (l.flatMap (deferredAck s))
      recallCount := s.recallCount - (l.flatMap (deferredAck s)).length } := by
  induction l generalizing s with
  | nil =>
    have hp : s.pins = Vector.replicate 4 none := table_ext fun i => by rw [ho i (by simp), replicate_get]
    refine ⟨s.dir, ⟨fun _ => rfl, ?_, fun _ _ => rfl⟩, ?_⟩
    · intro i _ p hi
      rw [ho i (by simp)] at hi
      cases hi
    · simp [← hp]
  | cons i l ih =>
    obtain ⟨hi, hl⟩ := List.nodup_cons.1 hl
    obtain ⟨e, he, ht, ha, hk⟩ := clearPin_step h i
    have hpins (j : Fin 4) : (s.pinEnded i e).pins[j] = if i = j then none else s.pins[j] := upd_get ..
    have ho' (j : Fin 4) (hj : j ∉ l) : (s.pinEnded i e).pins[j] = none := by
      rw [hpins]
      split
      · rfl
      · next hij => exact ho j (by simp [Ne.symm hij, hj])
    have old (j : Fin 4) (q : Pin) (hq : q ∈ (s.pinEnded i e).pins[j]) : q ∈ s.pins[j] ∧ j ≠ i := by
      rw [hpins] at hq
      split at hq
      · cases hq
      · next hij => exact ⟨hq, Ne.symm hij⟩
    obtain ⟨d, hd, hfold⟩ := ih _ ht hl ho'
    have hacks : l.flatMap (deferredAck (s.pinEnded i e)) = l.flatMap (deferredAck s) :=
      List.flatMap_congr fun j hj => hk j fun hji => hi (hji ▸ hj)
    refine ⟨d, ⟨fun j => (hd.lru j).trans (ha.lru j), fun j _ p hp m v hdef st x data hw => ?_, fun m hm => ?_⟩, ?_⟩
    · by_cases hji : j = i
      · subst hji
        refine (hd.kept m fun k _ q hq r hr => ?_).trans (ha.applied j rfl p hp m v hdef st x data hw)
        obtain ⟨hq, hk⟩ := old k q hq
        exact hk (h.alone j p hp m v hdef k q hq (activeAt_of_defersAt hr))
      · have hw' : (s.pinEnded i e).wayAt m = .copy st x data := by
          refine (ha.kept m ?_).trans hw
          rintro k rfl q hq r hr
          exact hji (h.alone k q hq m r hr j p hp (activeAt_of_defersAt hdef))
        refine hd.applied j trivial p ?_ m v hdef st x data hw'
        rw [hpins, if_neg (Ne.symm hji)]
        exact hp
    · refine (hd.kept m fun k _ q hq r => hm k trivial q (old k q hq).1 r).trans (ha.kept m ?_)
      exact fun k _ q hq r => hm k trivial q hq r
    · have hch : ackChAfter (s.pinEnded i e) (l.flatMap (deferredAck s)) =
          ackChAfter s (deferredAck s i ++ l.flatMap (deferredAck s)) := ackChAfter_append rfl rfl
      rw [List.foldl_cons, he, hfold, hacks, List.flatMap_cons, List.length_append, ← Nat.sub_sub, ← hch]
      rfl

/-! ### The loss of the near link (R174) -/

/-- A WAITING record becomes free; an ACTIVE one stands (R123). -/
theorem mem_dropWaiting {o : Option Pin} {p : Pin} : p ∈ dropWaiting o ↔ p ∈ o ∧ p.isActive = true := by
  cases o with
  | none => simp [dropWaiting]
  | some q =>
    simp only [dropWaiting, Option.mem_def]
    split
    · next ha => constructor
                 · rintro ⟨⟩; exact ⟨rfl, ha⟩
                 · exact fun h => h.1
    · next ha => simp; rintro rfl; simpa using ha

/-- A record that defers a recall is ACTIVE. -/
theorem isActive_of_defersAt {l : Loc} {v : RecallRecord} {p : Pin} (h : defersAt l v p) : p.isActive = true := by
  obtain ⟨d, h⟩ := h
  simp [Pin.isActive, h]

/-- The state at the loss of the near link when only the ACTIVE pins are left to end (R174, steps 1 to 3). -/
def State.nearLost (s : State) : State :=
  { s with nearLink := .down, ingress := [], egress := [], credits := Vector.replicate 16 0, noticeInterval := none
           holds := Vector.replicate 4 none, txns := mapTable TxnEntry.dropWaiters s.txns
           pins := mapTable dropWaiting s.pins }

theorem loseNearLink_eq (s : State) : s.loseNearLink =
    { s.nearLost.clearPins with drain := { s.nearLost.clearPins.drain with pendingReply := none } } := rfl

theorem nearLost_pins (s : State) (i : Fin 4) : s.nearLost.pins[i] = dropWaiting s.pins[i] := mapTable_get ..

/-- Freeing the WAITING records changes no acknowledgement of a deferred recall. -/
theorem deferredAck_nearLost (s : State) : deferredAck s.nearLost = deferredAck s := by
  funext i
  unfold deferredAck
  rw [nearLost_pins]
  rcases s.pins[i] with _ | ⟨owner, line, st⟩
  · rfl
  · cases st <;> rfl

/-- In a coherent state an ACTIVE pin's way holds its line, and no two are on one way (R112, R117). -/
theorem defersOnItsWay_nearLost {s : State} (h : Coherent s) : DefersOnItsWay s.nearLost := by
  have hmem {i : Fin 4} {p : Pin} (hp : p ∈ s.nearLost.pins[i]) : p ∈ s.pins[i] ∧ p.isActive = true := by
    rw [nearLost_pins] at hp
    exact mem_dropWaiting.1 hp
  have hway {i : Fin 4} {p : Pin} {l : Loc} (hp : p ∈ s.pins[i]) (ha : p.activeAt l = true) :
      ∃ st data, s.wayAt l = .copy st p.line data ∧ (st = .x ∨ st = .m) := by
    unfold Pin.activeAt at ha
    split at ha
    · next m d r hst =>
      obtain rfl : m = l := by simpa using ha
      have hx := (h.activeHolds i p hp m d r hst).1
      unfold Way.isExclusive at hx
      split at hx
      · next y data hw => exact ⟨.x, data, by rw [hw, beq_iff_eq.1 hx], .inl rfl⟩
      · next y data hw => exact ⟨.m, data, by rw [hw, beq_iff_eq.1 hx], .inr rfl⟩
      · cases hx
    · cases ha
  refine ⟨h.form, fun i p hp l v hd => ?_, fun i p hp l v hd j q hq ha => ?_⟩
  · obtain ⟨st, data, hw, hs⟩ := hway (hmem hp).1 (activeAt_of_defersAt hd)
    obtain ⟨d, hd⟩ := hd
    have hv : v.line = p.line := (h.activeHolds i p (hmem hp).1 l d (some v) hd).2 v rfl
    rw [hv]
    exact ⟨lookup_of_holds h (by rw [hw]; rfl), st, data, hw, hs⟩
  · obtain ⟨st, data, hw, -⟩ := hway (hmem hp).1 (activeAt_of_defersAt hd)
    obtain ⟨st', data', hw', -⟩ := hway (hmem hq).1 ha
    obtain ⟨-, hx, -⟩ := Way.copy.inj (hw.symm.trans hw')
    exact h.oneActive j i q (hmem hq).1 p (hmem hp).1 (hmem hq).2 (hmem hp).2 hx.symm

/-- Every deferred recall is one of some record. -/
theorem no_deferred {s : State} (h : s.deferredRecalls = []) (i : Fin 4) :
    (s.pins[i]).bind Pin.deferred? = none := by
  have hi := List.filterMap_eq_nil_iff.1 h s.pins[i] (by simp)
  exact hi

/-- Settles O60: every report by its equation, the loss of the near link by the end of its pins one by one. -/
theorem linkReportsAndReattach : Obligations.LinkReportsAndReattach := by
  intro s
  have hdrop (g : Tag) : (mapTable TxnEntry.dropWaiters s.txns)[g] = match s.txns[g] with
      | .issued t => .issued { t with waiters := [] }
      | e => e := by
    rw [mapTable_get]
    cases s.txns[g] <;> rfl
  refine ⟨fun hn => by simp [exec, execNearLinkUp, hn], fun hn => by simp [exec, execNearLinkUp, hn],
    fun hn => by simp [exec, execNearLinkDown, hn], fun hn hd => ?_, fun hn hco => ?_, fun _ => rfl,
    fun hf => ?_, fun hf => by simp [exec, execFarLinkDown, hf], fun hf hw => ?_, fun p rest h hm => ?_⟩
  · refine ⟨_, hdrop, ?_⟩
    have hp (i : Fin 4) : (s.nearLost.pins[i]).bind Pin.deferred? = none := by
      have := no_deferred hd i
      rw [nearLost_pins]
      cases hs : s.pins[i] with
      | none => rfl
      | some p =>
        rw [hs] at this
        unfold dropWaiting
        split <;> simp_all
    simp only [exec, execNearLinkDown, hn, loseNearLink_eq, clearPins_plain hp]
    rfl
  · obtain ⟨d, hd, hfold⟩ := clearPins_deferred (List.finRange 4) s.nearLost (defersOnItsWay_nearLost hco)
      (List.nodup_finRange 4) (fun j hj => absurd (List.mem_finRange j) hj)
    refine ⟨d, hd.lru, fun i v l r st x data hp hdef hw => ?_, fun l hl => ?_, _, hdrop, ?_⟩
    · refine hd.applied i trivial v ?_ l r hdef st x data hw
      rw [nearLost_pins]
      exact mem_dropWaiting.2 ⟨hp, isActive_of_defersAt hdef⟩
    · refine hd.kept l fun i _ p hp v => hl i p ?_ v
      rw [nearLost_pins] at hp
      exact (mem_dropWaiting.1 hp).1
    · simp only [exec, execNearLinkDown, hn, loseNearLink_eq, clearPins_eq, hfold, deferredAck_nearLost]
      rfl
  · have : ({ s with farLink := .up } : State) = s := by rw [← hf]
    exact congrArg Host.Outcome.next this
  · refine ⟨mapSets DirSet.clear s.dir, fun i => ?_, ?_⟩
    · rw [readSet_mapSets DirSet.clear rfl s.dir i hw]
      exact ⟨fun w => replicate_get .., rfl⟩
    · simp only [exec, execFarLinkDown, hf, loseFarLink_eq]
  · have hc : (commandByte p).toNat = 14 := by rw [h.2.2.2.1]; rfl
    have e := exec_command h hm
    simp only [managementStep, managementRun, hc] at e
    rw [e]
    refine ⟨fun hf => ?_, fun hf => ?_⟩
    · simp only [runReattach, credited_farLink, hf]
      rw [reply_eq (by exact h.1)]
    · simp only [runReattach, credited_farLink, hf]
      rw [reply_eq (by exact h.1)]

end Sys2Proof.Machine
end

section
/-! SUPPORT. The bytes of the packets that depart at the requester port (R179), with the entries of R181 and the records
of R182, field by field. Each record's bytes are a run of numbers, each in the bytes its size gives it; the fields of
such a run are read off it once, for every record. -/

namespace Sys2Proof.Machine

open Sys2Proof.Safety

/-! ### Runs of numbers -/

/-- The bytes of a run of numbers, each given by its size in bytes and its value, least significant byte first
(R177). -/
def runBytes : List (Nat × Nat) → List Byte
  | [] => []
  | p :: l => leBytes p.1 p.2 ++ runBytes l

/-- The fields (offset, size, number) of a run of numbers that begins at offset `o`. -/
def runFields (o : Nat) : List (Nat × Nat) → List (Nat × Nat × Nat)
  | [] => []
  | p :: l => (o, p.1, p.2) :: runFields (o + p.1) l

/-- How many bytes a run of numbers takes. -/
def runSize : List (Nat × Nat) → Nat
  | [] => 0
  | p :: l => p.1 + runSize l

@[simp] theorem runBytes_nil : runBytes [] = [] := rfl

@[simp] theorem runBytes_cons (n v : Nat) (l : List (Nat × Nat)) :
    runBytes ((n, v) :: l) = leBytes n v ++ runBytes l := rfl

@[simp] theorem runFields_nil (o : Nat) : runFields o [] = [] := rfl

@[simp] theorem runFields_cons (o n v : Nat) (l : List (Nat × Nat)) :
    runFields o ((n, v) :: l) = (o, n, v) :: runFields (o + n) l := rfl

@[simp] theorem runSize_nil : runSize [] = 0 := rfl

@[simp] theorem runSize_cons (n v : Nat) (l : List (Nat × Nat)) : runSize ((n, v) :: l) = n + runSize l := rfl

@[simp] theorem runBytes_append (l m : List (Nat × Nat)) : runBytes (l ++ m) = runBytes l ++ runBytes m := by
  induction l with
  | nil => rfl
  | cons p l ih => simp [runBytes, ih]

@[simp] theorem runFields_append (o : Nat) (l m : List (Nat × Nat)) :
    runFields o (l ++ m) = runFields o l ++ runFields (o + runSize l) m := by
  induction l generalizing o with
  | nil => rfl
  | cons p l ih => simp [runFields, runSize, ih, Nat.add_assoc]

@[simp] theorem runSize_append (l m : List (Nat × Nat)) : runSize (l ++ m) = runSize l + runSize m := by
  induction l with
  | nil => simp
  | cons p l ih => simp [runSize, ih, Nat.add_assoc]

@[simp] theorem runBytes_length (l : List (Nat × Nat)) : (runBytes l).length = runSize l := by
  induction l with
  | nil => rfl
  | cons p l ih => simp [runBytes, runSize, ih]

/-- A field of a run of numbers reads as its number, as far as its bytes hold it. -/
theorem fieldAt_runBytes {l : List (Nat × Nat)} {o : Nat} {f : Nat × Nat × Nat} (h : f ∈ runFields o l)
    {pre : List Byte} (hpre : pre.length = o) (rest : List Byte) :
    fieldAt (pre ++ (runBytes l ++ rest)) f.1 f.2.1 = f.2.2 % 256 ^ f.2.1 := by
  induction l generalizing o pre with
  | nil => cases h
  | cons p l ih =>
    rcases List.mem_cons.1 h with rfl | h
    · have := fieldAt_append_right pre (leBytes p.1 p.2 ++ (runBytes l ++ rest)) 0 p.1
      rw [fieldAt_leBytes, Nat.add_zero, hpre] at this
      simpa [runBytes] using this
    · simpa [runBytes] using ih h (pre := pre ++ leBytes p.1 p.2) (by simp [hpre])

/-- A run of numbers with further bytes behind it has the run's fields. -/
theorem layout_runBytes_append {l : List (Nat × Nat)} {n : Nat} {f : List (Nat × Nat × Nat)} (rest : List Byte)
    (hn : runSize l + rest.length = n) (hf : f ⊆ runFields 0 l) : Layout (runBytes l ++ rest) n f := by
  refine ⟨by simp [hn], fun x hx hv => ?_⟩
  rw [← Nat.mod_eq_of_lt hv]
  exact fieldAt_runBytes (hf hx) (pre := []) rfl rest

/-- A run of numbers has the run's fields. -/
theorem layout_runBytes {l : List (Nat × Nat)} {n : Nat} {f : List (Nat × Nat × Nat)} (hn : runSize l = n)
    (hf : f ⊆ runFields 0 l) : Layout (runBytes l) n f := by
  simpa using layout_runBytes_append [] (by simpa using hn) hf

/-- A bit of a byte of flags is the flag. -/
theorem flagBit_of_layout {b : List Byte} {n o : Nat} {flags : List Bool} (h : Layout b n [(o, 1, bitsNat flags)])
    (hlen : flags.length ≤ 8) (i : Nat) : (byteAt b o).getLsbD i = (flags[i]?).getD false := by
  have hlt : bitsNat flags < 2 ^ 8 := Nat.lt_pow_two_of_testBit _ fun j hj => by
    rw [bitsNat_testBit, List.getElem?_eq_none (by omega)]
    rfl
  have hbyte : (byteAt b o).toNat = bitsNat flags := by
    rw [← fieldAt_one]
    exact h.2 _ (List.mem_singleton_self _) (by simpa using hlt)
  rw [← BitVec.testBit_toNat, hbyte, bitsNat_testBit]

/-! ### Single bytes, flags and absent fields -/

@[simp] theorem leBytes_one (n : Nat) : leBytes 1 n = [byteOf n] := rfl

/-- Zero bytes are a number's bytes, those of 0. -/
theorem zeros_eq_leBytes (k : Nat) : zeros k = leBytes k 0 := by
  induction k with
  | zero => rfl
  | succ k ih => simpa [leBytes, zeros, List.replicate_succ] using ih

@[simp] theorem byteOf_toNat (b : Byte) : byteOf b.toNat = b := by simp [byteOf]

@[simp] theorem byteOf_zero : byteOf 0 = 0 := rfl

/-- Flag `k` is worth its bit. -/
theorem bitIf_eq (k : Nat) (b : Bool) : bitIf k b = 2 ^ k * if b then 1 else 0 := by cases b <;> simp [bitIf]

/-- A field that is absent is sent as 0 (R182). -/
theorem byteOf_getD {α : Type} (f : α → Nat) (o : Option α) :
    byteOf ((o.map f).getD 0) = (o.map fun a => byteOf (f a)).getD 0 := by cases o <;> rfl

/-! ### The entries of R181 -/

theorem windowEntry_bytes (e : WindowEntry) : e.bytes = runBytes [(1, bitIf 0 e.valid), (1, e.exponent),
    (1, e.policy.code.toNat), (1, e.atomicMode.code.toNat), (6, e.base.toNat), (2, e.readMask.toNat),
    (2, e.writeMask.toNat), (2, 0)] := by
  simp [WindowEntry.bytes, addrBytes, flagByte, bitsNat, bitIf, zeros_eq_leBytes]

/-- A window entry's bytes (R181). -/
theorem windowLayout (e : WindowEntry) : WindowLayout e e.bytes := by
  rw [windowEntry_bytes]
  exact layout_runBytes rfl (by simp)

theorem watchEntry_bytes (e : WatchEntry) : e.bytes = runBytes [(1, bitIf 0 e.enable), (1, e.exponent),
    (1, e.kinds.toNat), (1, e.action.code.toNat), (6, e.base.toNat), (2, e.mask.toNat), (4, e.hits)] := by
  simp [WatchEntry.bytes, addrBytes, flagByte, bitsNat, bitIf]

/-- A watch entry's bytes (R181). -/
theorem watchLayout (e : WatchEntry) : WatchLayout e e.bytes := by
  rw [watchEntry_bytes]
  exact layout_runBytes rfl (by simp)

theorem configRecord_bytes (c : ConfigRecord) : c.bytes = runBytes [(1, c.defaultPolicy.code.toNat),
    (1, c.noticeTarget.val), (2, c.farTimeout), (2, c.pinTimeout), (1, c.noticeEnable.toNat), (1, 0),
    (2, c.managers.toNat), (6, 0)] := by
  simp [ConfigRecord.bytes, requesterByte, zeros_eq_leBytes]

/-- The configuration record's bytes (R181). -/
theorem configLayout (c : ConfigRecord) : ConfigLayout c c.bytes := by
  rw [configRecord_bytes]
  exact layout_runBytes rfl (by simp)

/-! ### The records of R182 -/

/-- The flags of the notice kinds in the order of their bits (R181, R182). -/
def pendingFlags (l : List NoticeKind) : List Bool :=
  [.farProtocol, .farTimeout, .farFail, .pinExpired, .captureFull, .hold, .linkLoss].map fun k => l.contains k

/-- The status record as a run of numbers (R182). -/
def statusRun (r : StatusRecord) : List (Nat × Nat) :=
  [(1, bitIf 0 (r.mode == .operating) + bitIf 1 (r.farLink == .up)), (1, r.issued), (1, r.orphaned),
    (1, r.evictions), (1, r.recalls), (1, r.pinsWaiting), (1, r.pinsActive), (1, r.holds), (1, r.captures),
    (1, r.drainState.code.toNat), (2, r.cursorSet), (1, r.cursorWay.val),
    (1, bitsNat (pendingFlags r.pendingKinds)), (2, 0)]

theorem statusRecord_bytes (r : StatusRecord) : r.bytes = runBytes (statusRun r) := by
  have h (a b : Bool) : bitsNat [a, b] = bitIf 0 a + bitIf 1 b := by simp only [bitsNat, bitIf_eq]; omega
  simp [StatusRecord.bytes, statusRun, flagByte, h, pendingFlags, zeros_eq_leBytes]

/-- The status record's bytes (R182). -/
theorem statusLayout (r : StatusRecord) : StatusLayout r r.bytes := by
  rw [statusRecord_bytes]
  have hflags : Layout (runBytes (statusRun r)) 16 [(13, 1, bitsNat (pendingFlags r.pendingKinds))] :=
    layout_runBytes rfl (by simp [statusRun])
  have hbit := flagBit_of_layout hflags (by simp [pendingFlags])
  refine ⟨layout_runBytes rfl (by simp [statusRun]), fun k => ?_, ?_⟩
  · rw [hbit]
    cases k <;> simp [pendingFlags, NoticeKind.bit]
  · rw [hbit]
    rfl

/-- The flags of the matched watch entries, entry 0 first (R182). -/
def matchedFlags (l : List (Fin 8)) : List Bool := (List.finRange 8).map fun i => l.contains i

/-- The number of the held slot, with bit 7 where there is one (R182). -/
def heldSlotNumber : Option (Fin 4) → Nat
  | some i => 128 + i.val
  | none => 0

/-- A capture record as a run of numbers (R182). -/
def captureRun (c : Capture) : List (Nat × Nat) :=
  [(2, c.sequence.toNat), (1, c.requester.val), (1, c.id.toNat), (1, c.kind.code.toNat), (1, c.len),
    (6, c.addr.toNat), (1, bitsNat (matchedFlags c.matched)), (1, heldSlotNumber c.heldSlot), (2, 0)]

theorem capture_bytes (c : Capture) : c.bytes = runBytes (captureRun c) := by
  cases h : c.heldSlot <;>
    simp [Capture.bytes, captureRun, heldSlotNumber, matchedFlags, addrBytes, requesterByte, flagByte, h,
      zeros_eq_leBytes]

/-- A capture record's bytes (R182). -/
theorem captureLayout (c : Capture) : CaptureLayout c c.bytes := by
  rw [capture_bytes]
  have hflags : Layout (runBytes (captureRun c)) 16 [(12, 1, bitsNat (matchedFlags c.matched))] :=
    layout_runBytes rfl (by simp [captureRun])
  have hbit := flagBit_of_layout hflags (by simp [matchedFlags])
  refine ⟨layout_runBytes rfl ?_, fun i => ?_⟩
  · cases h : c.heldSlot <;> simp [captureRun, heldSlotNumber, h]
  · rw [hbit]
    simp [matchedFlags]

/-- The place of a pin's line as a run of numbers, 0 where it is absent (R182). -/
def pinLocRun : Option Loc → List (Nat × Nat)
  | some l => [(2, l.set.val), (1, l.way.val)]
  | none => [(3, 0)]

/-- A pin's deferred recall as a run of numbers, 0 where it is absent (R182). -/
def pinDeferredRun : Option RecallRecord → List (Nat × Nat)
  | some r => [(1, r.id.toNat), (1, r.kind.code.toNat)]
  | none => [(2, 0)]

/-- A pin element as a run of numbers (R182). -/
def pinRun (e : PinElement) : List (Nat × Nat) :=
  [(1, e.index.val), (1, e.owner.val), (1, if e.active then 2 else 1),
    (1, bitIf 0 e.loc.isSome + bitIf 1 e.deferred.isSome), (6, e.line.toNat)] ++ pinLocRun e.loc ++
    [(2, e.remaining)] ++ pinDeferredRun e.deferred ++ [(3, 0)]

theorem pinElement_bytes (e : PinElement) : e.bytes = runBytes (pinRun e) := by
  have h (a b : Bool) : flagByte [a, b] = byteOf (bitIf 0 a + bitIf 1 b) := by
    simp only [flagByte, bitsNat, bitIf_eq]
    congr 1
    omega
  have hactive : (if e.active then 2 else 1 : Byte) = byteOf (if e.active then 2 else 1) := by split <;> rfl
  obtain ⟨index, owner, line, active, loc, remaining, deferred⟩ := e
  cases loc <;> cases deferred <;>
    simp_all [PinElement.bytes, pinRun, pinLocRun, pinDeferredRun, addrBytes, requesterByte, zeros_eq_leBytes]

theorem pinElement_bytes_length (e : PinElement) : e.bytes.length = 20 := by
  rw [pinElement_bytes, runBytes_length]
  obtain ⟨index, owner, line, active, loc, remaining, deferred⟩ := e
  cases loc <;> cases deferred <;> rfl

/-- A pin element's bytes (R182). -/
theorem pinLayout (e : PinElement) : PinLayout e e.bytes := by
  have hlen := pinElement_bytes_length e
  rw [pinElement_bytes, runBytes_length] at hlen
  rw [pinElement_bytes]
  refine layout_runBytes hlen ?_
  obtain ⟨index, owner, line, active, loc, remaining, deferred⟩ := e
  cases loc <;> cases deferred <;> simp [pinRun, pinLocRun, pinDeferredRun]

/-- Element `i` of a list of elements of one size stands behind the `i` before it. -/
theorem flatMap_bytes_at {α : Type} {f : α → List Byte} {n : Nat} (hf : ∀ a, (f a).length = n) {l : List α}
    {i : Nat} {a : α} (h : l[i]? = some a) : ((l.flatMap f).drop (n * i)).take n = f a := by
  induction l generalizing i with
  | nil => simp at h
  | cons b l ih =>
    cases i with
    | zero =>
      obtain rfl : b = a := by simpa using h
      simp [← hf b]
    | succ i =>
      rw [List.flatMap_cons, Nat.mul_succ, Nat.add_comm, ← hf b, List.drop_append, List.drop_eq_nil_of_le (by omega),
        Nat.add_sub_cancel_left, List.nil_append, hf b]
      exact ih (by simpa using h)

/-! ### The probe record (R182) -/

/-- The resident group of a probe record as a run of numbers. -/
def residentRun : Option ProbeResident → List (Nat × Nat)
  | some v => [(1, v.st.code.toNat), (2, v.loc.set.val), (1, v.loc.way.val), (1, v.lruPosition)]
  | none => [(5, 0)]

/-- The eviction buffer group of a probe record as a run of numbers. -/
def evictionRun : Option (Fin 4 × EvictionOrigin) → List (Nat × Nat)
  | some (i, origin) => [(1, i.val), (1, origin.code.toNat)]
  | none => [(2, 0)]

/-- The transaction group of a probe record as a run of numbers. -/
def txnRun : Option (Tag × TxnKind) → List (Nat × Nat)
  | some (tag, k) => [(1, tag.val), (1, k.code.toNat), (1, (txnQualifier k).toNat)]
  | none => [(3, 0)]

/-- The pin group of a probe record as a run of numbers. -/
def probePinRun : Option (Fin 4 × PinState) → List (Nat × Nat)
  | some (i, .waiting _) => [(1, i.val), (1, 1)]
  | some (i, .active _ _ _) => [(1, i.val), (1, 2)]
  | none => [(2, 0)]

/-- The recall group of a probe record as a run of numbers. -/
def unackedRun : Option (RecallRecord × RecallPlace) → List (Nat × Nat)
  | some (v, place) => [(1, v.id.toNat), (1, v.kind.code.toNat), (1, place.code.toNat)]
  | none => [(3, 0)]

@[simp] theorem residentRun_size (o : Option ProbeResident) : runSize (residentRun o) = 5 := by cases o <;> rfl

@[simp] theorem evictionRun_size (o : Option (Fin 4 × EvictionOrigin)) : runSize (evictionRun o) = 2 := by
  cases o <;> rfl

@[simp] theorem txnRun_size (o : Option (Tag × TxnKind)) : runSize (txnRun o) = 3 := by cases o <;> rfl

@[simp] theorem probePinRun_size (o : Option (Fin 4 × PinState)) : runSize (probePinRun o) = 2 := by
  rcases o with _ | ⟨i, _ | _⟩ <;> rfl

@[simp] theorem unackedRun_size (o : Option (RecallRecord × RecallPlace)) : runSize (unackedRun o) = 3 := by
  cases o <;> rfl

/-- Byte 6 of a probe record: which groups are present. -/
def probePresence (r : ProbeRecord) : Nat :=
  bitIf 0 r.resident.isSome + bitIf 1 r.eviction.isSome + bitIf 2 r.txn.isSome + bitIf 3 r.pin.isSome +
    bitIf 4 r.unacked.isSome

theorem flagByte_probePresence (r : ProbeRecord) :
    flagByte [r.resident.isSome, r.eviction.isSome, r.txn.isSome, r.pin.isSome, r.unacked.isSome] =
      byteOf (probePresence r) := by
  simp only [flagByte, bitsNat, probePresence, bitIf_eq]
  congr 1
  omega

theorem probeRecord_bytes (r : ProbeRecord) : r.bytes = runBytes ([(6, r.line.toNat), (1, probePresence r)] ++
    residentRun r.resident ++ evictionRun r.eviction ++ txnRun r.txn ++ probePinRun r.pin ++ unackedRun r.unacked ++
    [(2, 0)]) := by
  simp only [ProbeRecord.bytes, flagByte_probePresence, runBytes_append]
  refine congrArg₂ _ (congrArg₂ _ (congrArg₂ _ (congrArg₂ _ (congrArg₂ _ (congrArg₂ _ ?_ ?_) ?_) ?_) ?_) ?_) ?_
  · simp [addrBytes]
  · cases r.resident <;> simp [probeResidentBytes, residentRun, zeros_eq_leBytes]
  · cases r.eviction <;> simp [evictionRun, zeros_eq_leBytes]
  · cases r.txn <;> simp [txnRun, zeros_eq_leBytes]
  · rcases r.pin with _ | ⟨i, _ | _⟩ <;> simp [probePinRun, byteOf, zeros_eq_leBytes]
  · cases r.unacked <;> simp [unackedRun, zeros_eq_leBytes]
  · simp [zeros_eq_leBytes]

/-- Bytes 15 and 16 of a probe record are the far request's code and its qualifier. -/
theorem lineKindFields_subset (k : TxnKind) :
    lineKindFields k ⊆ [(15, 1, k.code.toNat), (16, 1, (txnQualifier k).toNat)] := by
  cases k with
  | upgrade line loc copyLost =>
    cases copyLost <;> simp [lineKindFields, TxnKind.code, txnQualifier, bitIf, flagByte, bitsNat, byteOf]
  | _ => simp [lineKindFields, TxnKind.code, txnQualifier]

/-- A probe record's bytes (R182). -/
theorem probeLayout (r : ProbeRecord) : ProbeLayout r r.bytes := by
  rw [probeRecord_bytes]
  refine layout_runBytes (by simp) ?_
  simp only [runFields_append, runSize_append, residentRun_size, evictionRun_size, txnRun_size, probePinRun_size,
    unackedRun_size, runFields_cons, runFields_nil, runSize_cons, runSize_nil, Nat.zero_add, Nat.reduceAdd]
  simp only [List.append_subset]
  refine ⟨⟨⟨⟨⟨?_, ?_⟩, ?_⟩, ?_⟩, ?_⟩, ?_⟩
  · simp [probePresence]
  · cases r.resident <;> simp [residentRun]
  · cases r.eviction <;> simp [evictionRun]
  · rcases r.txn with _ | ⟨tag, k⟩
    · simp [txnRun]
    · exact List.cons_subset.2 ⟨by simp [txnRun], List.Subset.trans (lineKindFields_subset k) (by simp [txnRun])⟩
  · rcases r.pin with _ | ⟨i, _ | _⟩ <;> simp [probePinRun]
  · cases r.unacked <;> simp [unackedRun]

/-! ### A notice's detail (R182) -/

/-- Byte 14 of a notice's detail: which fields are present. -/
def detailPresence (d : NoticeDetail) : Nat :=
  bitIf 0 d.addr.isSome + bitIf 1 d.tag.isSome + bitIf 2 d.recallId.isSome + bitIf 3 d.requester.isSome +
    bitIf 4 d.requestId.isSome + bitIf 5 d.kind.isSome + bitIf 6 d.slot.isSome + bitIf 7 d.lines.isSome

theorem flagByte_detailPresence (d : NoticeDetail) :
    flagByte [d.addr.isSome, d.tag.isSome, d.recallId.isSome, d.requester.isSome, d.requestId.isSome, d.kind.isSome,
      d.slot.isSome, d.lines.isSome] = byteOf (detailPresence d) := by
  simp only [flagByte, bitsNat, detailPresence, bitIf_eq]
  congr 1
  omega

theorem noticeDetail_bytes (d : NoticeDetail) : d.bytes = runBytes
    [(6, (d.addr.map BitVec.toNat).getD 0), (1, (d.tag.map BitVec.toNat).getD 0),
      (1, (d.recallId.map BitVec.toNat).getD 0), (1, (d.requester.map Fin.val).getD 0),
      (1, (d.requestId.map BitVec.toNat).getD 0), (1, (d.kind.map fun k => k.code.toNat).getD 0),
      (1, (d.slot.map Fin.val).getD 0), (2, d.lines.getD 0), (1, detailPresence d), (1, 0)] := by
  have haddr : (d.addr.map BitVec.toNat).getD 0 = (d.addr.getD 0).toNat := by cases d.addr <;> rfl
  have hreq : (d.requester.map requesterByte).getD 0 = (d.requester.map fun r => byteOf r.val).getD 0 := rfl
  simp only [NoticeDetail.bytes, flagByte_detailPresence, haddr, hreq, runBytes_cons, leBytes_one, byteOf_getD]
  simp [addrBytes]

/-- The bytes of a notice's detail (R182). -/
theorem detailLayout (d : NoticeDetail) : DetailLayout d d.bytes := by
  rw [noticeDetail_bytes]
  exact layout_runBytes rfl (by simp [detailPresence])

/-! ### Replies and packets (R179) -/

theorem drainReport_bytes (r : DrainReport) : r.bytes = runBytes [(1, r.mode.code.toNat), (2, r.writtenBack),
    (2, r.invalidated), (2, r.skippedPinned), (2, r.failed), (2, r.cursorSet), (1, r.cursorWay.val)] := by
  simp [DrainReport.bytes]

/-- The reply fields of a MGMT_REPLY (R179). -/
theorem replyLayout (fields : ReplyFields) : ReplyLayout fields fields.bytes := by
  cases fields with
  | none => rfl
  | window e => exact windowLayout e
  | watch e => exact watchLayout e
  | config c => exact configLayout c
  | status r => exact statusLayout r
  | probe r => exact probeLayout r
  | pins l =>
    have hlen : (l.flatMap PinElement.bytes).length = 20 * l.length := by
      simp [List.length_flatMap, pinElement_bytes_length, Nat.mul_comm]
    refine ⟨layout_runBytes_append (l := [(1, l.length)]) (l.flatMap PinElement.bytes) (by simp [hlen]) (by simp),
      fun i e h => ?_⟩
    rw [ReplyFields.bytes, Nat.add_comm, List.drop_succ_cons, flatMap_bytes_at pinElement_bytes_length h]
    exact pinLayout e
  | drain r =>
    change Layout r.bytes _ _
    rw [drainReport_bytes]
    exact layout_runBytes rfl (by simp)
  | capture c left =>
    have hlen : c.bytes.length = 16 := (captureLayout c).1.1
    refine ⟨?_, ?_⟩
    · rw [ReplyFields.bytes, ← hlen, List.take_left]
      exact captureLayout c
    · rw [ReplyFields.bytes, capture_bytes, ← leBytes_one, ← List.append_nil (leBytes 1 left)]
      have h : Layout (runBytes (captureRun c ++ [(1, left)])) 17 [(16, 1, left)] :=
        layout_runBytes rfl (by simp [captureRun])
      simpa using h
  | held requester id =>
    have h : Layout (runBytes [(1, requester.val), (1, id.toNat)]) 2 [(0, 1, requester.val), (1, 1, id.toNat)] :=
      layout_runBytes rfl (by simp)
    simpa [ReplyLayout, ReplyFields.bytes, requesterByte] using h
  | brokenPin owner line =>
    have h : Layout (runBytes [(1, owner.val), (6, line.toNat)]) 7 [(0, 1, owner.val), (1, 6, line.toNat)] :=
      layout_runBytes rfl (by simp)
    simpa [ReplyLayout, ReplyFields.bytes, requesterByte, addrBytes] using h
  | discarded lines =>
    have h : Layout (runBytes [(2, lines)]) 2 [(0, 2, lines)] := layout_runBytes rfl (by simp)
    simpa [ReplyLayout, ReplyFields.bytes] using h

theorem nearPacket_bytes_response (dest : Requester) (id kind : Byte) (status : RespStatus) (data : List Byte) :
    (NearPacket.response dest id kind status data).bytes = runBytes [(1, 129), (1, dest.val), (1, id.toNat),
      (1, kind.toNat), (1, status.code.toNat), (1, data.length), (2, 0)] ++ data := by
  simp [NearPacket.bytes, requesterByte, byteOf, zeros_eq_leBytes]

theorem nearPacket_bytes_mgmtReply (dest : Requester) (id command : Byte) (status : MgmtStatus)
    (fields : ReplyFields) : (NearPacket.mgmtReply dest id command status fields).bytes = runBytes [(1, 130),
      (1, dest.val), (1, id.toNat), (1, command.toNat), (1, status.code.toNat), (1, 0), (2, fields.bytes.length)] ++
      fields.bytes := by
  simp [NearPacket.bytes, requesterByte, byteOf]

theorem nearPacket_bytes_credit (dest : Requester) :
    (NearPacket.credit dest).bytes = runBytes [(1, 131), (1, dest.val), (6, 0)] := by
  simp [NearPacket.bytes, requesterByte, byteOf, zeros_eq_leBytes]

theorem nearPacket_bytes_notice (dest : Requester) (n : Notice) : (NearPacket.notice dest n).bytes = runBytes
    [(1, 132), (1, dest.val), (1, 0), (1, n.kind.code.toNat), (1, n.count), (3, 0)] ++ n.detail.bytes := by
  simp [NearPacket.bytes, requesterByte, byteOf, zeros_eq_leBytes]

/-- A run of 8 bytes is a header: the payload is what stands behind it. -/
theorem drop_header {l : List (Nat × Nat)} (h : runSize l = 8) (payload : List Byte) :
    (runBytes l ++ payload).drop 8 = payload := by
  rw [← h, ← runBytes_length, List.drop_left]

/-- A departing packet's header and payload (R179). -/
theorem nearPacketLayout (v : NearPacket) : NearPacketLayout v v.bytes := by
  cases v with
  | response dest id kind status data =>
    rw [nearPacket_bytes_response]
    exact ⟨layout_runBytes_append data rfl (by simp), drop_header rfl data⟩
  | mgmtReply dest id command status fields =>
    rw [nearPacket_bytes_mgmtReply]
    refine ⟨layout_runBytes_append fields.bytes ?_ ?_, ?_⟩
    · rw [drop_header rfl]
      rfl
    · rw [drop_header rfl]
      simp
    · rw [drop_header rfl]
      exact replyLayout fields
  | credit dest =>
    rw [nearPacket_bytes_credit]
    exact layout_runBytes rfl (by simp)
  | notice dest n =>
    have hlen : n.detail.bytes.length = 16 := (detailLayout n.detail).1
    rw [nearPacket_bytes_notice]
    refine ⟨layout_runBytes_append n.detail.bytes (by simp [hlen]) (by simp), ?_⟩
    rw [drop_header rfl]
    exact detailLayout n.detail

end Sys2Proof.Machine
end

section
/-! The delivery of notices and the departures at the requester port (R15, R18, R179). -/

namespace Sys2Proof.Machine

open Sys2Proof.Safety

/-! ### The packet codes (R178, R179, R181, R182) -/

theorem packetCodes : PacketCodes := by
  unfold PacketCodes
  and_intros <;> rfl

/-! ### Notices (R18) -/

/-- While the near link is UP and no interval runs, the oldest notice is taken, and the interval starts (R18). -/
theorem takeNotice_cons {s : State} {n : Notice} {rest : List Notice} (hup : s.nearLink = .up)
    (hint : s.noticeInterval = none) (hn : s.notices = n :: rest) :
    s.takeNotice = { s with
      notices := rest, noticeInterval := some (s.now + 8)
      egress := s.egress ++ [.notice s.config.noticeTarget n] } := by
  simp only [State.takeNotice, hup, hint, hn, State.emit, if_true]

/-- Nothing is taken while the near link is DOWN, while an interval runs or where no notice is pending (R18). -/
theorem takeNotice_eq_self {s : State} (h : s.nearLink = .down ∨ s.noticeInterval ≠ none ∨ s.notices = []) :
    s.takeNotice = s := by
  unfold State.takeNotice
  split
  next hup hint hn => simp [hup, hint, hn] at h
  next => rfl

/-- At the end of an interval the next notice is taken at once (R18). -/
theorem endInterval_due {s : State} {e : Nat} (he : s.noticeInterval = some e) (hdue : e ≤ s.now) :
    s.endInterval = { s with noticeInterval := none }.takeNotice := by
  simp only [State.endInterval, he, if_pos hdue]

/-- An interval whose end lies ahead does not end (R18). -/
theorem endInterval_ahead {s : State} {e : Nat} (he : s.noticeInterval = some e) (hahead : s.now < e) :
    s.endInterval = s := by
  simp only [State.endInterval, he, if_neg (Nat.not_le.2 hahead)]

/-- Settles O58: notices are taken one interval apart, and packets depart oldest first in the bytes of R179. -/
theorem noticesAreDelivered : Obligations.NoticesAreDelivered := by
  refine ⟨packetCodes, fun s => ⟨?_, ?_, ?_, ?_, ?_, ?_⟩⟩
  · intro n rest hup hint hn
    exact congrArg Host.Outcome.next (takeNotice_cons hup hint hn)
  · intro h
    exact congrArg Host.Outcome.next (takeNotice_eq_self h)
  · intro e n rest hup he hdue hn
    have ht := takeNotice_cons (s := { s with noticeInterval := none }) hup rfl hn
    exact congrArg Host.Outcome.next ((endInterval_due he hdue).trans ht)
  · intro e he hdue hn
    have ht := takeNotice_eq_self (s := { s with noticeInterval := none }) (.inr (.inr hn))
    exact congrArg Host.Outcome.next ((endInterval_due he hdue).trans ht)
  · intro e he hahead
    exact congrArg Host.Outcome.next (endInterval_ahead he hahead)
  · intro v rest hup hv
    refine ⟨nearPacketLayout v, ?_⟩
    simp only [exec, execEgressDeparture, hup, hv]

end Sys2Proof.Machine
end

section
/-! SUPPORT. What each command does to the window table, the watch table and the configuration record: the laws of the
tables (R19, R20, R128, R156), and the contents that a WRITE_ENTRY is accepted with (R33, R130, R157). -/

namespace Sys2Proof.Machine

open Sys2Proof.Safety

/-! ### The validation of written entries (R33, R130, R157) -/

theorem not_aligned {base : Addr} {n : Nat} : (!aligned base n) = true ↔ base.toNat % 2 ^ n ≠ 0 := by
  simp [aligned]

theorem policyOf_eq_none {b : Byte} : policyOf b = none ↔ b.toNat < 1 ∨ 4 < b.toNat := by
  unfold policyOf
  split <;> simp_all
  omega

theorem atomicModeOf_eq_none {b : Byte} : atomicModeOf b = none ↔ b.toNat < 1 ∨ 2 < b.toNat := by
  unfold atomicModeOf
  split <;> simp_all
  omega

theorem watchActionOf_eq_none {b : Byte} : watchActionOf b = none ↔ b.toNat < 1 ∨ 3 < b.toNat := by
  unfold watchActionOf
  split <;> simp_all
  omega

theorem defaultPolicyOf_eq_none {b : Byte} : defaultPolicyOf b = none ↔ b ≠ 3 ∧ b ≠ 4 := by
  have e (n : Nat) (hn : n < 256) : b = BitVec.ofNat 8 n ↔ b.toNat = n := by
    rw [← BitVec.toNat_inj, BitVec.toNat_ofNat, Nat.mod_eq_of_lt hn]
  rw [Ne, Ne, show (3 : Byte) = BitVec.ofNat 8 3 from rfl, show (4 : Byte) = BitVec.ofNat 8 4 from rfl,
    e 3 (by decide), e 4 (by decide)]
  unfold defaultPolicyOf policyOf
  split <;> split at * <;> simp_all

/-- The 16 bytes are refused, or make a window entry within its ranges (R19, R33). -/
theorem windowOf_cases (b : List Byte) : (refusedWindow b ∧ windowOf b = none) ∨
    (¬ refusedWindow b ∧ ∃ e, windowOf b = some e ∧ WindowForm e) := by
  have hp := policyOf_eq_none (b := byteAt b 2)
  have hm := atomicModeOf_eq_none (b := byteAt b 3)
  simp only [windowOf, not_aligned, refusedWindow]
  split
  · exact .inl ⟨by omega, rfl⟩
  · split
    · exact .inl ⟨by omega, rfl⟩
    · split
      · next h1 h2 =>
        simp only [h1, h2, reduceCtorEq, false_iff] at hp hm
        exact .inr ⟨by omega, _, rfl, by dsimp only [WindowForm]; omega⟩
      · next h =>
        refine .inl ⟨?_, rfl⟩
        cases h1 : policyOf (byteAt b 2) with
        | none => have := hp.1 h1; omega
        | some p =>
          cases h2 : atomicModeOf (byteAt b 3) with
          | none => have := hm.1 h2; omega
          | some m => exact absurd h2 (h p m h1)

/-- The 16 bytes are refused, or make a watch entry within its ranges, of hit count 0 (R128, R130). -/
theorem watchOf_cases (b : List Byte) : (refusedWatch b ∧ watchOf b = none) ∨
    (¬ refusedWatch b ∧ ∃ e, watchOf b = some e ∧ WatchForm e ∧ e.hits = 0) := by
  have ha := watchActionOf_eq_none (b := byteAt b 3)
  simp only [watchOf, not_aligned, refusedWatch]
  split
  · exact .inl ⟨by omega, rfl⟩
  · split
    · exact .inl ⟨by omega, rfl⟩
    · split
      · exact .inl ⟨by omega, rfl⟩
      · split
        · next h =>
          simp only [h, reduceCtorEq, false_iff] at ha
          have hk : BitVec.ofNat 4 (byteAt b 2).toNat ≠ 0 := fun h0 => by
            have := congrArg BitVec.toNat h0
            simp at this
            omega
          exact .inr ⟨by omega, _, rfl, ⟨by dsimp only; omega, by dsimp only; omega, hk, Nat.zero_le _⟩, rfl⟩
        · next h => have := ha.1 h; exact .inl ⟨by omega, rfl⟩

/-- The 16 bytes are refused, or make a configuration record within its ranges (R156, R157). -/
theorem configOf_cases (b : List Byte) : (refusedConfig b ∧ configOf b = none) ∨
    (¬ refusedConfig b ∧ ∃ c, configOf b = some c ∧ ConfigForm c) := by
  have hd := defaultPolicyOf_eq_none (b := byteAt b 0)
  simp only [configOf, refusedConfig, ← hd]
  split
  · next h => exact .inl ⟨.inl h, rfl⟩
  · next h =>
    simp only [h, reduceCtorEq, false_or]
    split
    · exact .inl ⟨by omega, rfl⟩
    · split
      · exact .inl ⟨by omega, rfl⟩
      · split
        · exact .inl ⟨by omega, rfl⟩
        · split
          · exact .inl ⟨by omega, rfl⟩
          · split
            · next hm => exact .inl ⟨by simp [hm], rfl⟩
            · next hm =>
              refine .inr ⟨by simp only [hm, or_false]; omega, _, rfl, ?_⟩
              exact ⟨by dsimp only; omega, by dsimp only; omega, by dsimp only; omega, by dsimp only; omega, hm⟩

theorem windowOf_refused {b : List Byte} (h : refusedWindow b) : windowOf b = none :=
  (windowOf_cases b).elim And.right fun k => absurd h k.1

theorem watchOf_refused {b : List Byte} (h : refusedWatch b) : watchOf b = none :=
  (watchOf_cases b).elim And.right fun k => absurd h k.1

theorem configOf_refused {b : List Byte} (h : refusedConfig b) : configOf b = none :=
  (configOf_cases b).elim And.right fun k => absurd h k.1

theorem windowForm_of_windowOf {b : List Byte} {e : WindowEntry} (h : windowOf b = some e) : WindowForm e := by
  obtain ⟨-, hn⟩ | ⟨-, e', he, hf⟩ := windowOf_cases b
  · rw [h] at hn; cases hn
  · rw [h] at he; cases he; exact hf

theorem watchForm_of_watchOf {b : List Byte} {e : WatchEntry} (h : watchOf b = some e) : WatchForm e ∧ e.hits = 0 := by
  obtain ⟨-, hn⟩ | ⟨-, e', he, hf⟩ := watchOf_cases b
  · rw [h] at hn; cases hn
  · rw [h] at he; cases he; exact hf

theorem configForm_of_configOf {b : List Byte} {c : ConfigRecord} (h : configOf b = some c) : ConfigForm c := by
  obtain ⟨-, hn⟩ | ⟨-, c', hc, hf⟩ := configOf_cases b
  · rw [h] at hn; cases hn
  · rw [h] at hc; cases hc; exact hf

/-! ### Work that leaves the tables as they are -/

/-- A watch entry's fields stand, and its hit count stays within its range (R131). -/
def HitsKept (e f : WatchEntry) : Prop :=
  (∃ n, f = { e with hits := n }) ∧ (e.hits ≤ 4294967295 → f.hits ≤ 4294967295)

/-- The window table, the configuration record and the watch entries' fields stand; hit counts may rise. -/
structure KeepsTables (s t : State) : Prop where
  windows : t.windows = s.windows
  config : t.config = s.config
  watch : ∀ i : Fin 8, HitsKept s.watch[i] t.watch[i]

theorem HitsKept.refl (e : WatchEntry) : HitsKept e e := ⟨⟨e.hits, rfl⟩, id⟩

theorem HitsKept.trans {e f g : WatchEntry} (h : HitsKept e f) (k : HitsKept f g) : HitsKept e g := by
  obtain ⟨⟨n, rfl⟩, hn⟩ := h
  obtain ⟨⟨m, rfl⟩, hm⟩ := k
  exact ⟨⟨m, rfl⟩, hm ∘ hn⟩

/-- A hit count stays at 2^32 - 1 (R131). -/
theorem hitsKept_hit (e : WatchEntry) : HitsKept e e.hit := by
  refine ⟨⟨_, rfl⟩, fun h => ?_⟩
  simp only [WatchEntry.hit]
  split <;> omega

theorem watchForm_of_hitsKept {e f : WatchEntry} (he : WatchForm e) (h : HitsKept e f) : WatchForm f := by
  obtain ⟨⟨n, rfl⟩, hn⟩ := h
  obtain ⟨hx, hb, hk, hh⟩ := he
  exact ⟨hx, hb, hk, hn hh⟩

theorem KeepsTables.of_same {s t : State} (hw : t.windows = s.windows) (hc : t.config = s.config)
    (hv : t.watch = s.watch) : KeepsTables s t := ⟨hw, hc, fun _ => hv ▸ .refl _⟩

theorem KeepsTables.refl (s : State) : KeepsTables s s := .of_same rfl rfl rfl

theorem KeepsTables.trans {s t u : State} (h : KeepsTables s t) (k : KeepsTables t u) : KeepsTables s u :=
  ⟨k.windows.trans h.windows, k.config.trans h.config, fun i => (h.watch i).trans (k.watch i)⟩

theorem Within.keepsTables {s t : State} (h : Within s t) : KeepsTables s t := .of_same h.windows h.config h.watch

section work

variable (s : State) (q : Request) (p : Packet)

theorem keepsTables_reply (st : MgmtStatus) (f : ReplyFields) : KeepsTables s (s.reply p st f) :=
  (within_reply s p st f).keepsTables

theorem keepsTables_answer (st : RespStatus) : KeepsTables s (s.answer q st) := (within_answer s q st []).keepsTables

theorem keepsTables_takeHead (rest : List Packet) : KeepsTables s (s.takeHead p rest) := .of_same rfl rfl rfl

/-- The matching entries' hit counts rise, no more (R131). -/
theorem keepsTables_countHits : KeepsTables s (s.countHits q) := by
  refine ⟨rfl, rfl, fun i => ?_⟩
  rw [State.countHits_watch, mapTable_get]
  split
  · exact hitsKept_hit _
  · exact .refl _

theorem keepsTables_captureRequest (matched : List (Fin 8)) (slot : Option (Fin 4)) :
    KeepsTables s (s.captureRequest q matched slot) := by
  unfold State.captureRequest
  split
  · exact .of_same rfl rfl rfl
  · exact (within_raise s ..).keepsTables

/-- What the watch check hands on, or keeps, has counted, captured or held the request, or answered it. -/
theorem keepsTables_watchCheck {t : State} (h : s.watchCheck q = .pass t ∨ s.watchCheck q = .stopped t) :
    KeepsTables s t := by
  have hc := keepsTables_countHits s q
  have hr (slot) : KeepsTables s ((s.countHits q).captureRequest q (s.matching q) slot) :=
    hc.trans (keepsTables_captureRequest ..)
  unfold State.watchCheck at h
  dsimp only at h
  split at h
  · split at h <;> simp only [reduceCtorEq, WatchOutcome.stopped.injEq, false_or] at h <;> subst h
    · exact (hr _).trans (.of_same rfl rfl rfl)
    · exact (hr _).trans (keepsTables_answer ..)
  · split at h <;> simp only [reduceCtorEq, WatchOutcome.pass.injEq, or_false] at h <;> subst h
    · exact hr _
    · exact hc

theorem keepsTables_admitPacket : KeepsTables s (s.admitPacket p) := by
  unfold State.admitPacket State.admitRequest
  split
  · split
    · exact keepsTables_answer s ..
    · split
      · next h => exact (keepsTables_watchCheck s _ (.inl h)).trans (within_admitFromMode ..).keepsTables
      · next h => exact keepsTables_watchCheck s _ (.inr h)
  · exact (within_answerPacket s ..).keepsTables

theorem keepsTables_takeRequest (k : RequestKind) : KeepsTables s (s.takeRequest k) := by
  unfold State.takeRequest
  split
  · split
    · exact (keepsTables_takeHead s ..).trans (keepsTables_admitPacket ..)
    · exact .refl s
  · exact .refl s

/-- All requests are removed, each with its CREDIT and RESET answer (R17). -/
theorem keepsTables_resetIngress : KeepsTables s s.resetIngress := by
  have step (t : State) (p : Packet) : KeepsTables t ((t.takeHead p []).answerReset p) := by
    refine (keepsTables_takeHead t p []).trans ?_
    unfold State.answerReset
    split
    · exact (within_emit ..).keepsTables
    · exact (within_answerPacket ..).keepsTables
  have fold (ps : List Packet) (t : State) :
      KeepsTables t (ps.foldl (fun s p => (s.takeHead p []).answerReset p) t) := by
    induction ps generalizing t with
    | nil => exact .refl t
    | cons p ps ih => exact (step t p).trans (ih _)
  have h := fold s.ingress { s with ingress := [] }
  exact ⟨h.windows, h.config, h.watch⟩

theorem keepsTables_trafficReset : KeepsTables s s.trafficReset := by
  have hh (t : State) : KeepsTables t t.resetHolds := by
    rw [resetHolds_eq]
    exact .of_same rfl rfl rfl
  have ha (t : State) (rs : List RecallRecord) : Within t (t.ackAll rs) :=
    .foldl (fun s (r : RecallRecord) => within_ackRecall s r.id .notHeld) rs t
  exact ((((keepsTables_resetIngress s).trans (hh _)).trans (within_answerAll ..).keepsTables).trans
    (ha ..).keepsTables).trans ((within_blocks _ ..).trans (within_stopDrain ..)).keepsTables

theorem keepsTables_loseNearLink : KeepsTables s s.loseNearLink := by
  refine KeepsTables.trans (t := s.nearLost) (.of_same rfl rfl rfl) ?_
  exact ((within_clearPins _).trans (within_blocks _ ..)).keepsTables

theorem keepsTables_loseFarLink : KeepsTables s s.loseFarLink := by
  rw [loseFarLink_eq]
  exact .of_same rfl rfl rfl

theorem keepsTables_takeNotice : KeepsTables s s.takeNotice := by
  unfold State.takeNotice
  split
  · exact .of_same rfl rfl rfl
  · exact .refl s

theorem keepsTables_endInterval : KeepsTables s s.endInterval := by
  unfold State.endInterval
  split
  · split
    · have h := keepsTables_takeNotice { s with noticeInterval := none }
      exact ⟨h.windows, h.config, h.watch⟩
    · exact .refl s
  · exact .refl s

/-- The end of a microsecond (R183). -/
theorem keepsTables_tick : KeepsTables s s.tick := by
  have hg := Within.foldl within_expireTxn (List.finRange 32) s
  have hp := Within.foldl within_expirePin (List.finRange 4) ((List.finRange 32).foldl State.expireTxn s)
  have h : KeepsTables s s.expireDue := (hg.trans hp).keepsTables.trans (keepsTables_endInterval _)
  unfold State.tick
  generalize s.expireDue = u at h ⊢
  exact ⟨h.windows, h.config, h.watch⟩

end work

/-! ### What a command does to the tables -/

/-- The ways in which a command can leave the tables. -/
inductive TableStep : Instr → State → State → Prop
  /-- The tables stand, hit counts apart. -/
  | kept {c : Instr} {s t : State} (h : KeepsTables s t) : TableStep c s t
  /-- A window entry is replaced (R33). -/
  | windowWritten {s t : State} {i : Fin 32} {e : WindowEntry} (he : WindowForm e)
    (h : KeepsTables { s with windows := upd s.windows i e } t) : TableStep .writeEntryWindow s t
  /-- A watch entry is replaced (R130). -/
  | watchWritten {s t : State} {i : Fin 8} {e : WatchEntry} (he : WatchForm e)
    (h : KeepsTables { s with watch := upd s.watch i e } t) : TableStep .writeEntryWatch s t
  /-- The configuration record is replaced (R157). -/
  | configWritten {s t : State} {r : ConfigRecord} (hr : ConfigForm r)
    (h : KeepsTables { s with config := r } t) : TableStep .writeEntryConfig s t
  /-- The part is reset (R176). -/
  | reset {s t : State} (h : KeepsTables State.reset t) : TableStep .coldReset s t

/-- Taking a packet out of the ingress queue leaves the tables as they are. -/
theorem TableStep.of_takeHead {c : Instr} {s t : State} {p : Packet} {rest : List Packet}
    (h : TableStep c (s.takeHead p rest) t) : TableStep c s t := by
  cases h with
  | kept h => exact .kept ((keepsTables_takeHead s p rest).trans h)
  | windowWritten he h => exact .windowWritten he ⟨h.windows, h.config, h.watch⟩
  | watchWritten he h => exact .watchWritten he ⟨h.windows, h.config, h.watch⟩
  | configWritten hr h => exact .configWritten hr ⟨h.windows, h.config, h.watch⟩
  | reset h => exact .reset h

section commands

variable (s : State) (p : Packet)

theorem tableStep_takeCommand {c : Instr} (wanted : Packet → Bool) {run : State → Packet → State}
    (hr : ∀ s p, TableStep c s (run s p)) : TableStep c s (s.takeCommand wanted run) := by
  unfold State.takeCommand
  split
  · next q rest _ =>
    split
    · refine .of_takeHead (p := q) (rest := rest) ?_
      unfold State.command
      split
      · exact .kept (keepsTables_reply ..)
      · split
        · exact .kept (keepsTables_reply ..)
        · exact hr ..
    · exact .kept (.refl s)
  · exact .kept (.refl s)

theorem tableStep_runWriteWindow : TableStep .writeEntryWindow s (runWriteWindow s p) := by
  unfold runWriteWindow
  split
  · next i e _ he =>
    split
    · exact .windowWritten (windowForm_of_windowOf he) (keepsTables_reply ..)
    · exact .kept (keepsTables_reply ..)
  · exact .kept (keepsTables_reply ..)

theorem tableStep_runWriteWatch : TableStep .writeEntryWatch s (runWriteWatch s p) := by
  unfold runWriteWatch
  split
  · next i e _ he =>
    split
    · exact .watchWritten (watchForm_of_watchOf he).1 (keepsTables_reply ..)
    · exact .kept (keepsTables_reply ..)
  · exact .kept (keepsTables_reply ..)

theorem tableStep_runWriteConfig : TableStep .writeEntryConfig s (runWriteConfig s p) := by
  unfold runWriteConfig
  split
  · next r hr =>
    split
    · exact .configWritten (configForm_of_configOf hr) (keepsTables_reply ..)
    · exact .kept (keepsTables_reply ..)
  · exact .kept (keepsTables_reply ..)

theorem keepsTables_runReadWindow : KeepsTables s (runReadWindow s p) := by
  unfold runReadWindow
  split
  · split <;> exact keepsTables_reply s ..
  · exact keepsTables_reply s ..

theorem keepsTables_runReadWatch : KeepsTables s (runReadWatch s p) := by
  unfold runReadWatch
  split
  · split <;> exact keepsTables_reply s ..
  · exact keepsTables_reply s ..

theorem keepsTables_runReadConfig : KeepsTables s (runReadConfig s p) := by
  unfold runReadConfig
  split <;> exact keepsTables_reply s ..

theorem keepsTables_runDrain : KeepsTables s (runDrain s p) := by
  unfold runDrain
  split
  · split
    · exact .of_same rfl rfl rfl
    · exact keepsTables_reply s ..
  · exact keepsTables_reply s ..

theorem keepsTables_runDrainAbort : KeepsTables s (runDrainAbort s p) := by
  unfold runDrainAbort
  split
  · exact keepsTables_reply s ..
  · exact ((within_blocks s ..).trans (within_endScan _)).keepsTables.trans (keepsTables_reply ..)
  · exact .of_same rfl rfl rfl

theorem keepsTables_runPopCapture : KeepsTables s (runPopCapture s p) := by
  unfold runPopCapture
  split
  · exact .of_same rfl rfl rfl
  · exact keepsTables_reply s ..

theorem keepsTables_runReleaseHold : KeepsTables s (runReleaseHold s p) := by
  unfold runReleaseHold
  split
  · split
    · next i _ _ q _ =>
      have h := (within_admitFromMode { s with holds := upd s.holds i none } q).keepsTables
      exact KeepsTables.trans ⟨h.windows, h.config, h.watch⟩ (keepsTables_reply ..)
    · exact keepsTables_reply s ..
  · exact keepsTables_reply s ..

theorem keepsTables_runDiscardHold : KeepsTables s (runDiscardHold s p) := by
  unfold runDiscardHold
  split
  · split
    · exact .of_same rfl rfl rfl
    · exact keepsTables_reply s ..
  · exact keepsTables_reply s ..

theorem keepsTables_runBreakPin : KeepsTables s (runBreakPin s p) := by
  unfold runBreakPin
  split
  · split
    · split
      · exact (within_endPin s ..).keepsTables.trans (keepsTables_reply ..)
      · exact keepsTables_reply s ..
    · exact keepsTables_reply s ..
  · exact keepsTables_reply s ..

theorem keepsTables_runReattach : KeepsTables s (runReattach s p) := by
  unfold runReattach
  split
  · exact keepsTables_reply s ..
  · exact .of_same rfl rfl rfl

/-- A command whose execution leaves the tables as they are. -/
theorem tableStep_takeCommand_of_keeps (wanted : Packet → Bool) {run : State → Packet → State}
    (hr : ∀ s p, KeepsTables s (run s p)) (c : Instr) : TableStep c s (s.takeCommand wanted run) :=
  tableStep_takeCommand s wanted fun s p => .kept (hr s p)

/-- What each command does to the tables. -/
theorem exec_tableStep {c : Instr} {t : State} (h : exec c s = .next t) : TableStep c s t := by
  have request (k) : TableStep c s (s.takeRequest k) := .kept (keepsTables_takeRequest s k)
  have response {f} (hf : AppliesWithin f) (wanted) : TableStep c s (s.takeResponse wanted f) :=
    .kept (within_takeResponse hf s wanted).keepsTables
  cases c with
  | packetArrival p =>
    simp only [exec, execPacketArrival] at h
    split at h <;> cases h
    · exact .kept (.of_same rfl rfl rfl)
    · exact .kept (.refl s)
  | read => cases h; exact request _
  | write => cases h; exact request _
  | lockRead => cases h; exact request _
  | unlockWrite => cases h; exact request _
  | atomic => cases h; exact request _
  | unknownKindRequest =>
    simp only [exec, execUnknownKindRequest] at h
    split at h
    · split at h <;> cases h
      · exact .of_takeHead (.kept (within_answerPacket ..).keepsTables)
      · exact .kept (.refl s)
    · cases h; exact .kept (.refl s)
  | responseArrival p =>
    cases h
    split
    · exact .kept (.of_same rfl rfl rfl)
    · exact .kept (.refl s)
  | grantSData => cases h; exact response applyGrantSData_within _
  | grantXData => cases h; exact response applyGrantXData_within _
  | grantX => cases h; exact response applyGrantX_within _
  | wbDone => cases h; exact response applyWbDone_within _
  | ucData => cases h; exact response applyUcData_within _
  | ucDone => cases h; exact response applyUcDone_within _
  | atomicResult => cases h; exact response applyAtomicResult_within _
  | fail => cases h; exact response applyFail_within _
  | unknownResponse => cases h; exact response applyNone_within _
  | shortResponse =>
    simp only [exec, execShortResponse] at h
    split at h
    · split at h <;> cases h
      · exact .kept (.of_same rfl rfl rfl)
      · exact .kept (.refl s)
    · cases h; exact .kept (.refl s)
  | transactionExpiry g => cases h; exact .kept (within_expireTxn s g).keepsTables
  | recallArrival p =>
    cases h
    split
    · exact .kept ((within_blocks s ..).trans (within_examineRecalls _)).keepsTables
    · exact .kept (.refl s)
  | downgrade => cases h; exact .kept (within_takeRecall s _).keepsTables
  | surrender => cases h; exact .kept (within_takeRecall s _).keepsTables
  | pinExpiry i => cases h; exact .kept (within_expirePin s i).keepsTables
  | drainVisit => cases h; exact .kept (within_visit s).keepsTables
  | readEntryWindow => cases h; exact tableStep_takeCommand_of_keeps s _ keepsTables_runReadWindow _
  | readEntryWatch => cases h; exact tableStep_takeCommand_of_keeps s _ keepsTables_runReadWatch _
  | readEntryConfig => cases h; exact tableStep_takeCommand_of_keeps s _ keepsTables_runReadConfig _
  | writeEntryWindow => cases h; exact tableStep_takeCommand s _ tableStep_runWriteWindow
  | writeEntryWatch => cases h; exact tableStep_takeCommand s _ tableStep_runWriteWatch
  | writeEntryConfig => cases h; exact tableStep_takeCommand s _ tableStep_runWriteConfig
  | readStatus => cases h; exact tableStep_takeCommand_of_keeps s _ (fun s p => keepsTables_reply s p ..) _
  | probeLine => cases h; exact tableStep_takeCommand_of_keeps s _ (fun s p => keepsTables_reply s p ..) _
  | listPins => cases h; exact tableStep_takeCommand_of_keeps s _ (fun s p => keepsTables_reply s p ..) _
  | drain => cases h; exact tableStep_takeCommand_of_keeps s _ keepsTables_runDrain _
  | drainAbort => cases h; exact tableStep_takeCommand_of_keeps s _ keepsTables_runDrainAbort _
  | popCapture => cases h; exact tableStep_takeCommand_of_keeps s _ keepsTables_runPopCapture _
  | releaseHold => cases h; exact tableStep_takeCommand_of_keeps s _ keepsTables_runReleaseHold _
  | discardHold => cases h; exact tableStep_takeCommand_of_keeps s _ keepsTables_runDiscardHold _
  | breakPin => cases h; exact tableStep_takeCommand_of_keeps s _ keepsTables_runBreakPin _
  | trafficReset =>
    cases h
    exact tableStep_takeCommand_of_keeps s _
      (fun s p => (keepsTables_trafficReset s).trans (keepsTables_reply _ p ..)) _
  | reattach => cases h; exact tableStep_takeCommand_of_keeps s _ keepsTables_runReattach _
  | noticeTake => cases h; exact .kept (keepsTables_takeNotice s)
  | noticeIntervalEnd => cases h; exact .kept (keepsTables_endInterval s)
  | egressDeparture =>
    simp only [exec, execEgressDeparture] at h
    split at h <;> cases h
    · exact .kept (.of_same rfl rfl rfl)
    · exact .kept (.refl s)
  | farPacketDeparture ch =>
    simp only [exec, execFarPacketDeparture] at h
    split at h
    · split at h <;> cases h
      · exact .kept (.of_same rfl rfl rfl)
      · exact .kept (.refl s)
    · split at h <;> cases h
      · exact .kept (.of_same rfl rfl rfl)
      · exact .kept (.refl s)
    · cases h; exact .kept (.refl s)
  | nearLinkDown =>
    simp only [exec, execNearLinkDown] at h
    split at h <;> cases h
    · exact .kept (keepsTables_loseNearLink s)
    · exact .kept (.refl s)
  | nearLinkUp =>
    simp only [exec, execNearLinkUp] at h
    split at h <;> cases h
    · exact .kept (.of_same rfl rfl rfl)
    · exact .kept (.refl s)
  | farLinkDown =>
    simp only [exec, execFarLinkDown] at h
    split at h <;> cases h
    · exact .kept (keepsTables_loseFarLink s)
    · exact .kept (.refl s)
  | farLinkUp => cases h; exact .kept (.of_same rfl rfl rfl)
  | coldReset => cases h; exact .reset (.of_same rfl rfl rfl)
  | unknownCommand =>
    simp only [exec, execUnknownCommand] at h
    split at h
    · split at h <;> cases h
      · exact .of_takeHead (.kept (keepsTables_reply ..))
      · exact .kept (.refl s)
    · cases h; exact .kept (.refl s)

end commands

/-! ### The laws of the tables -/

theorem tablesForm_of_keepsTables {s t : State} (h : KeepsTables s t) (hs : TablesForm s) : TablesForm t := by
  obtain ⟨hw, hv, hc⟩ := hs
  refine ⟨fun i => ?_, fun i => watchForm_of_hitsKept (hv i) (h.watch i), ?_⟩
  · rw [h.windows]; exact hw i
  · rw [h.config]; exact hc

/-- The reset values are within their ranges (R20, R129, R156). -/
theorem tablesForm_reset : TablesForm State.reset := by
  refine ⟨fun i => ?_, fun i => ?_, by unfold ConfigForm; decide⟩
  · simp only [State.reset, replicate_get]
    unfold WindowForm
    decide
  · simp only [State.reset, replicate_get]
    unfold WatchForm
    decide

/-- Every command keeps the tables' ranges: what it writes has passed the table's validation. -/
theorem tablesForm_tableStep {c : Instr} {s t : State} (hs : TablesForm s) (h : TableStep c s t) : TablesForm t := by
  obtain ⟨hw, hv, hc⟩ := hs
  cases h with
  | kept h => exact tablesForm_of_keepsTables h ⟨hw, hv, hc⟩
  | @windowWritten _ _ i e he h =>
    refine tablesForm_of_keepsTables h ⟨fun j => ?_, hv, hc⟩
    rw [upd_get]
    split
    · exact he
    · exact hw j
  | @watchWritten _ _ i e he h =>
    refine tablesForm_of_keepsTables h ⟨hw, fun j => ?_, hc⟩
    rw [upd_get]
    split
    · exact he
    · exact hv j
  | configWritten hr h => exact tablesForm_of_keepsTables h ⟨hw, hv, hr⟩
  | reset h => exact tablesForm_of_keepsTables h tablesForm_reset

/-- Settles O9: a command at the front by `exec_tableStep`, the empty queue by `keepsTables_tick`. -/
theorem stepsKeepTheTablesValid : Obligations.StepsKeepTheTablesValid := by
  intro s t hs h
  unfold step at h
  split at h
  · next c rest _ => exact tablesForm_tableStep (s := { s with pending := rest }) hs (exec_tableStep _ h)
  · rw [Host.Outcome.next.injEq] at h
    exact tablesForm_of_keepsTables (h ▸ keepsTables_tick s) hs

/-- Settles O14: the ways in which a command can leave the tables (`exec_tableStep`) are gone through. -/
theorem tablesChangeOnlyByTheirWrites : Obligations.TablesChangeOnlyByTheirWrites := by
  intro c s t h hc
  cases exec_tableStep s h with
  | kept h => exact ⟨fun _ => h.windows, fun _ => h.config⟩
  | windowWritten he h => exact ⟨fun hw => absurd rfl hw, fun _ => h.config⟩
  | watchWritten he h => exact ⟨fun _ => h.windows, fun _ => h.config⟩
  | configWritten hr h => exact ⟨fun _ => h.windows, fun hw => absurd rfl hw⟩
  | reset h => exact absurd rfl hc

end Sys2Proof.Machine
end

section
/-! SUPPORT. READ_ENTRY and WRITE_ENTRY of the three tables (R33, R130, R153, R154, R155, R157). -/

namespace Sys2Proof.Machine

open Sys2Proof.Safety

/-! ### What is read and written (R154, R155) -/

section runs

variable {s : State} {p : Packet}

theorem runReadWindow_ok {i : Fin 32} (ht : tableByte p = 1) (hi : indexByte p = i.val) :
    runReadWindow s p = s.reply p .ok (.window s.windows[i]) := by
  simp only [runReadWindow, index?_of_eq hi, if_pos ht]

theorem runReadWatch_ok {i : Fin 8} (ht : tableByte p = 2) (hi : indexByte p = i.val) :
    runReadWatch s p = s.reply p .ok (.watch s.watch[i]) := by
  simp only [runReadWatch, index?_of_eq hi, if_pos ht]

theorem runReadConfig_ok (ht : tableByte p = 3) (hi : indexByte p = 0) :
    runReadConfig s p = s.reply p .ok (.config s.config) := if_pos ⟨ht, hi⟩

theorem runWriteWindow_ok {i : Fin 32} {e : WindowEntry} (ht : tableByte p = 1) (hi : indexByte p = i.val)
    (he : windowOf (entryBytes p) = some e) :
    runWriteWindow s p = { s with windows := upd s.windows i e }.reply p .ok := by
  simp only [runWriteWindow, index?_of_eq hi, he, if_pos ht]

theorem runWriteWatch_ok {i : Fin 8} {e : WatchEntry} (ht : tableByte p = 2) (hi : indexByte p = i.val)
    (he : watchOf (entryBytes p) = some e) :
    runWriteWatch s p = { s with watch := upd s.watch i e }.reply p .ok := by
  simp only [runWriteWatch, index?_of_eq hi, he, if_pos ht]

theorem runWriteConfig_ok {c : ConfigRecord} (ht : tableByte p = 3) (hi : indexByte p = 0)
    (hc : configOf (entryBytes p) = some c) :
    runWriteConfig s p = { s with config := c }.reply p .ok := by
  simp only [runWriteConfig, hc, if_pos (And.intro ht hi)]

end runs

/-! ### What is answered INVALID_ENTRY (R153, R155) -/

/-- A table code out of the three, or an index out of its table's range (R153). -/
def EntryMissing (p : Packet) : Prop :=
  tableByte p = 0 ∨ 3 < (tableByte p).toNat ∨ (tableByte p = 1 ∧ 32 ≤ indexByte p) ∨
    (tableByte p = 2 ∧ 8 ≤ indexByte p) ∨ (tableByte p = 3 ∧ 1 ≤ indexByte p)

section runs

variable {s : State} {p : Packet}

theorem runWindow_invalid (h : tableByte p ≠ 1 ∨ 32 ≤ indexByte p) :
    runReadWindow s p = s.reply p .invalidEntry ∧ runWriteWindow s p = s.reply p .invalidEntry := by
  unfold runReadWindow runWriteWindow
  rcases h with h | h
  · simp only [h, if_false]
    constructor <;> split <;> rfl
  · simp only [index?_of_ge h, and_self]

theorem runWatch_invalid (h : 8 ≤ indexByte p) :
    runReadWatch s p = s.reply p .invalidEntry ∧ runWriteWatch s p = s.reply p .invalidEntry := by
  simp only [runReadWatch, runWriteWatch, index?_of_ge h, and_self]

theorem runConfig_invalid (h : 1 ≤ indexByte p) :
    runReadConfig s p = s.reply p .invalidEntry ∧ runWriteConfig s p = s.reply p .invalidEntry := by
  have hi : ¬ (tableByte p = 3 ∧ indexByte p = 0) := by omega
  simp only [runReadConfig, runWriteConfig, if_neg hi, true_and]
  split <;> rfl

theorem runWriteWindow_refused (h : refusedWindow (entryBytes p)) :
    runWriteWindow s p = s.reply p .invalidEntry := by
  simp only [runWriteWindow, windowOf_refused h]
  split
  · next hn => cases hn
  · rfl

theorem runWriteWatch_refused (h : refusedWatch (entryBytes p)) :
    runWriteWatch s p = s.reply p .invalidEntry := by
  simp only [runWriteWatch, watchOf_refused h]
  split
  · next hn => cases hn
  · rfl

theorem runWriteConfig_refused (h : refusedConfig (entryBytes p)) :
    runWriteConfig s p = s.reply p .invalidEntry := by
  simp only [runWriteConfig, configOf_refused h]

end runs

/-! ### The step and the execution of the two commands, by their table -/

theorem commandByte_of_takes {s : State} {p : Packet} {rest : List Packet} {code : Byte}
    (h : TakesCommand s p rest code) : commandByte p = code := by
  obtain ⟨-, -, -, hc, -⟩ := h
  exact hc

/-- A READ_ENTRY or WRITE_ENTRY goes to the table WATCH, to CONFIG, or else to WINDOW (log 11). -/
theorem tableByte_cases (p : Packet) : tableByte p = 2 ∨ tableByte p = 3 ∨
    (tableByte p ≠ 2 ∧ tableByte p ≠ 3 ∧ (tableByte p).toNat ≠ 2 ∧ (tableByte p).toNat ≠ 3) := by
  have e {n : Nat} (hn : (tableByte p).toNat = n) : tableByte p = BitVec.ofNat 8 n := byte_of_toNat hn
  by_cases h2 : tableByte p = 2
  · exact .inl h2
  · by_cases h3 : tableByte p = 3
    · exact .inr (.inl h3)
    · exact .inr (.inr ⟨h2, h3, fun h => h2 (e h), fun h => h3 (e h)⟩)

theorem management_readEntry {p : Packet} (h : commandByte p = 1) :
    managementStep p = (if tableByte p = 2 then .readEntryWatch
      else if tableByte p = 3 then .readEntryConfig else .readEntryWindow) ∧
    managementRun p = (if tableByte p = 2 then runReadWatch
      else if tableByte p = 3 then runReadConfig else runReadWindow) := by
  unfold managementStep managementRun
  obtain ht | ht | ⟨h2, h3, n2, n3⟩ := tableByte_cases p
  · simp [h, ht]
  · simp [h, ht]
  · simp only [if_neg h2, if_neg h3]
    simp [h]

theorem management_writeEntry {p : Packet} (h : commandByte p = 2) :
    managementStep p = (if tableByte p = 2 then .writeEntryWatch
      else if tableByte p = 3 then .writeEntryConfig else .writeEntryWindow) ∧
    managementRun p = (if tableByte p = 2 then runWriteWatch
      else if tableByte p = 3 then runWriteConfig else runWriteWindow) := by
  unfold managementStep managementRun
  obtain ht | ht | ⟨h2, h3, n2, n3⟩ := tableByte_cases p
  · simp [h, ht]
  · simp [h, ht]
  · simp only [if_neg h2, if_neg h3]
    simp [h]

/-- R153: whichever step takes it, a READ_ENTRY or WRITE_ENTRY of a missing entry is refused (log 11). -/
theorem managementRun_missing {p : Packet} (hc : commandByte p = 1 ∨ commandByte p = 2) (h : EntryMissing p)
    (s : State) : managementRun p s p = s.reply p .invalidEntry := by
  have hrun : managementRun p s p = (if tableByte p = 2 then runReadWatch s p
      else if tableByte p = 3 then runReadConfig s p else runReadWindow s p) ∨
    managementRun p s p = (if tableByte p = 2 then runWriteWatch s p
      else if tableByte p = 3 then runWriteConfig s p else runWriteWindow s p) := by
    rcases hc with hc | hc
    · left; rw [(management_readEntry hc).2]; split_ifs <;> rfl
    · right; rw [(management_writeEntry hc).2]; split_ifs <;> rfl
  obtain ht | ht | ⟨h2, h3, -, -⟩ := tableByte_cases p
  · have hi := runWatch_invalid (s := s) (p := p) (by simpa [EntryMissing, ht] using h)
    simpa [ht, hi] using hrun
  · have hi := runConfig_invalid (s := s) (p := p) (by simpa [EntryMissing, ht, Nat.one_le_iff_ne_zero] using h)
    simpa [ht, hi] using hrun
  · have hi := runWindow_invalid (s := s) (p := p) (by
      by_cases h1 : tableByte p = 1
      · exact .inr (by simpa [EntryMissing, h1] using h)
      · exact .inl h1)
    rw [if_neg h2, if_neg h3, if_neg h2, if_neg h3, hi.1, hi.2, or_self] at hrun
    exact hrun

section commands

variable {s : State} {p : Packet} {rest : List Packet} (hm : FromManager s p)
include hm

/-- A READ_ENTRY of one of the three tables. -/
theorem exec_readEntry (h : TakesCommand s p rest 1) :
    (tableByte p = 1 → exec .readEntryWindow s = .next (runReadWindow (credited s p rest) p)) ∧
    (tableByte p = 2 → exec .readEntryWatch s = .next (runReadWatch (credited s p rest) p)) ∧
    (tableByte p = 3 → exec .readEntryConfig s = .next (runReadConfig (credited s p rest) p)) := by
  have e := exec_command h hm
  obtain ⟨hs, hr⟩ := management_readEntry (commandByte_of_takes h)
  rw [hs, hr] at e
  exact ⟨fun ht => by simpa [ht] using e, fun ht => by simpa [ht] using e, fun ht => by simpa [ht] using e⟩

/-- A WRITE_ENTRY of one of the three tables. -/
theorem exec_writeEntry (h : TakesCommand s p rest 2) :
    (tableByte p = 1 → managementStep p = .writeEntryWindow ∧
      exec .writeEntryWindow s = .next (runWriteWindow (credited s p rest) p)) ∧
    (tableByte p = 2 → managementStep p = .writeEntryWatch ∧
      exec .writeEntryWatch s = .next (runWriteWatch (credited s p rest) p)) ∧
    (tableByte p = 3 → managementStep p = .writeEntryConfig ∧
      exec .writeEntryConfig s = .next (runWriteConfig (credited s p rest) p)) := by
  have e := exec_command h hm
  obtain ⟨hs, hr⟩ := management_writeEntry (commandByte_of_takes h)
  rw [hs, hr] at e
  rw [hs]
  exact ⟨fun ht => ⟨by simp [ht], by simpa [ht] using e⟩, fun ht => ⟨by simp [ht], by simpa [ht] using e⟩,
    fun ht => ⟨by simp [ht], by simpa [ht] using e⟩⟩

end commands

/-- Settles O54: the six completions by their steps, the refusals by `managementRun_missing` and the validations. -/
theorem entriesAreReadAndWritten : Obligations.EntriesAreReadAndWritten := by
  intro s p rest hm
  refine ⟨fun h => ?_, fun h => ?_, fun h hi => ?_⟩
  · obtain ⟨ewindow, ewatch, econfig⟩ := exec_readEntry hm h
    refine ⟨fun i ht hi => ?_, fun i ht hi => ?_, fun ht hi => ?_⟩
    · rw [ewindow ht, runReadWindow_ok ht hi, reply_eq (by exact h.1)]
      rfl
    · rw [ewatch ht, runReadWatch_ok ht hi, reply_eq (by exact h.1)]
      rfl
    · rw [econfig ht, runReadConfig_ok ht hi, reply_eq (by exact h.1)]
      rfl
  · obtain ⟨ewindow, ewatch, econfig⟩ := exec_writeEntry hm h
    refine ⟨fun i e ht hi he => ?_, fun i e ht hi he => ⟨(watchForm_of_watchOf he).2, ?_⟩, fun c ht hi hc => ?_, ?_⟩
    · rw [(ewindow ht).2, runWriteWindow_ok ht hi he, reply_eq (by exact h.1)]
      rfl
    · rw [(ewatch ht).2, runWriteWatch_ok ht hi he, reply_eq (by exact h.1)]
      rfl
    · rw [(econfig ht).2, runWriteConfig_ok ht hi hc, reply_eq (by exact h.1)]
    · rintro (⟨ht, hx⟩ | ⟨ht, hx⟩ | ⟨ht, hx⟩)
      · rw [(ewindow ht).1, (ewindow ht).2, runWriteWindow_refused hx, reply_eq (by exact h.1)]
      · rw [(ewatch ht).1, (ewatch ht).2, runWriteWatch_refused hx, reply_eq (by exact h.1)]
      · rw [(econfig ht).1, (econfig ht).2, runWriteConfig_refused hx, reply_eq (by exact h.1)]
  · rcases h with h | h
    · rw [exec_command h hm, managementRun_missing (.inl (commandByte_of_takes h)) hi, reply_eq (by exact h.1)]
    · rw [exec_command h hm, managementRun_missing (.inr (commandByte_of_takes h)) hi, reply_eq (by exact h.1)]

end Sys2Proof.Machine
end

section
/-! SUPPORT. Copy removal and the requests that go home (R28, R29, R31, R32, R65, R66), one lemma per outcome. -/

namespace Sys2Proof.Machine

open Sys2Proof.Safety

/-- A request that goes home is issued under the tag with itself as the one waiter (R28, R29, R65, R66). -/
theorem issueUncached_eq {s : State} {q : Request} {w : Waiter} (hw : q.uncachedWaiter = some w) (g : Tag) :
    s.issueUncached q w g = { s with
      txns := upd s.txns g (issuedNow s (uncachedKind q) [w]), reqCh := reqChAfter s [uncachedRequest q g] } := by
  unfold Request.uncachedWaiter at hw
  unfold uncachedKind uncachedRequest
  cases hb : q.body <;> rw [hb] at hw <;> cases hw <;> rfl

section outcomes

variable {s : State} {q : Request} {w : Waiter} {l : Loc} {st : CopyState} {data : LineData} {g : Tag}

/-! ### What is answered RETRY with nothing changed (R31) -/

theorem removeCopy_pinned (h : s.linePinned (lineOf q.addr) = true) : s.removeCopy q w = s.answer q .retry := by
  simp only [State.removeCopy, h, if_true]

/-- A line on its way home. -/
theorem removeCopy_leaving (h : s.inEvictionBuffer (lineOf q.addr) = true ∨ s.writebackPending (lineOf q.addr) = true) :
    s.removeCopy q w = s.answer q .retry := by
  have h1 : (s.inEvictionBuffer (lineOf q.addr) || s.writebackPending (lineOf q.addr)) = true := by simpa using h
  have h2 : (s.writebackPending (lineOf q.addr) || s.inEvictionBuffer (lineOf q.addr)) = true := by
    rw [Bool.or_comm]; exact h1
  simp only [State.removeCopy, h1, h2, if_true]
  split
  · rfl
  · split
    · split
      · rfl
      · exact ite_self _
    · rfl

/-- A way in FILL, UPGRADE or CLEANING. -/
theorem removeCopy_busy (hl : s.lookup (lineOf q.addr) = some l) (hb : (s.wayAt l).isBusy = true) :
    s.removeCopy q w = s.answer q .retry := by
  simp only [State.removeCopy, hl]
  split
  · rfl
  · split
    · next h => rw [h] at hb; cases hb
    · rw [if_pos hb]

/-- Without a FREE tag every line stays as it is. -/
theorem removeCopy_no_tag (hg : s.freeTag = none) : s.removeCopy q w = s.answer q .retry := by
  simp only [State.removeCopy, hg]
  split
  · rfl
  · split
    · split
      · split
        · rfl
        · cases s.freeSlot <;> rfl
      · split
        · rfl
        · exact ite_self _
    · exact ite_self _

/-- Without a free eviction buffer entry an M copy stays (R32). -/
theorem removeCopy_no_slot (hr : Resident s (lineOf q.addr) l .m data) (hs : s.freeSlot = none) :
    s.removeCopy q w = s.answer q .retry := by
  obtain ⟨hl, hw⟩ := hr
  simp only [State.removeCopy, hl, hw, hs]
  split
  · rfl
  · exact ite_self _

/-! ### A line that is neither pinned nor on its way home, with a FREE tag -/

variable (hp : s.linePinned (lineOf q.addr) = false) (he : s.inEvictionBuffer (lineOf q.addr) = false)
  (hb : s.writebackPending (lineOf q.addr) = false) (hg : s.freeTag = some g)
include hp he hb hg

/-- An absent line: the request goes home. -/
theorem removeCopy_absent (hl : s.lookup (lineOf q.addr) = none) : s.removeCopy q w = s.issueUncached q w g := by
  simp [State.removeCopy, hp, he, hb, hl, hg]

/-- An S or X copy: it is dropped and the request goes home. -/
theorem removeCopy_clean (hr : Resident s (lineOf q.addr) l st data) (hs : st = .s ∨ st = .x) :
    s.removeCopy q w = (s.putWay l .i).issueUncached q w g := by
  obtain ⟨hl, hw⟩ := hr
  rcases hs with rfl | rfl <;> simp [State.removeCopy, hp, he, hb, hl, hw, hg, Way.isBusy]

/-- An M copy: it goes home through the eviction buffer (R32). -/
theorem removeCopy_modified {slot : Fin 4} (hr : Resident s (lineOf q.addr) l .m data) (hs : s.freeSlot = some slot) :
    s.removeCopy q w = (s.evict l (lineOf q.addr) data slot g .stale .request).answer q .retry := by
  obtain ⟨hl, hw⟩ := hr
  simp [State.removeCopy, hp, he, hb, hl, hw, hg, hs]

end outcomes

/-- A request that comes to copy removal and is answered RETRY there. -/
theorem exec_comes_removal_retry {q : Request} {c : Instr} {s u : State} {done : State → State} {w : Waiter}
    (h : ComesToWindow q c s u done) (hd : ReachesRemoval u q) (hq : q.uncachedWaiter = some w)
    (hr : u.removeCopy q w = u.answer q .retry) : exec c s = .next (done (responding u q .retry)) := by
  rw [exec_comes_removal h hd hq, hr, answer_eq (comes_nearLink h)]

/-- Settles O32: an absent line, an S or X copy, and no FREE tag. -/
theorem uncachedRequestsGoHome : Obligations.UncachedRequestsGoHome := by
  intro q c s u done w hc hd hq hf hp he hb
  refine ⟨fun g hl hg => ?_, fun g loc st data hr hs hg => ⟨_, setBecomes_putWay hf loc .i, ?_⟩,
    fun _ _ _ _ hg => exec_comes_removal_retry hc hd hq (removeCopy_no_tag hg)⟩
  · rw [exec_comes_removal hc hd hq, removeCopy_absent hp he hb hg hl, issueUncached_eq hq]
  · rw [exec_comes_removal hc hd hq, removeCopy_clean hp he hb hg hr hs, issueUncached_eq hq]
    rfl

/-- Settles O33: the lines that are let be, and then the M copy by its resources. -/
theorem copyRemovalAnswersRetry : Obligations.CopyRemovalAnswersRetry := by
  intro q c s u done w hc hd hq hf
  refine ⟨fun h => exec_comes_removal_retry hc hd hq ?_, fun loc data hp he hb hr =>
    ⟨fun slot g hs hg => ⟨_, setBecomes_putWay hf loc .i, ?_⟩, fun h => exec_comes_removal_retry hc hd hq ?_⟩⟩
  · rcases h with h | h | h | ⟨loc, hl, hb⟩
    · exact removeCopy_pinned h
    · exact removeCopy_leaving (.inl h)
    · exact removeCopy_leaving (.inr h)
    · exact removeCopy_busy hl hb
  · have hn := comes_nearLink hc
    rw [exec_comes_removal hc hd hq, removeCopy_modified hp he hb hg hr hs, evict_eq, answer_eq (by exact hn)]
  · rcases h with h | h
    · exact removeCopy_no_slot hr h
    · exact removeCopy_no_tag h

end Sys2Proof.Machine
end

section
/-! SUPPORT. The UNLOCK_WRITE on its requester's ACTIVE pin, and the deferred recall that its end applies (R25, R102,
R118, R119). -/

namespace Sys2Proof.Machine

open Sys2Proof.Safety

/-! ### A way replaced, and looked up again -/

/-- A way replaced by one that holds the same line: the lookup finds the line where it was. -/
theorem lookup_putWay_same {s : State} {x : Addr} {l : Loc} {w : Way} (hf : dirWf s.dir = true)
    (h : s.lookup x = some l) (hw : w.line? = some x) : (s.putWay l w).lookup x = some l := by
  obtain ⟨hs, -, hl⟩ := lookup_eq_some.1 h
  refine lookup_eq_some.2 ⟨hs, ?_, fun v hv => ?_⟩
  · rw [wayAt_putWay s l l w hf, if_pos rfl, hw]
  · have hne : l ≠ { set := l.set, way := v } := fun e => hv.ne (congrArg Loc.way e).symm
    rw [wayAt_putWay s l _ w hf, if_neg hne]
    exact hl v hv

/-- A way replaced twice is replaced once. -/
theorem setBecomes_putWay_putWay {s : State} (hf : dirWf s.dir = true) (l : Loc) (w w' : Way) :
    SetBecomes s.dir ((s.putWay l w).putWay l w').dir l.set (withWay s l w') := by
  have k := setBecomes_trans (setBecomes_putWay hf l w) (setBecomes_putWay (dirWf_putWay s l w hf) l w')
  simpa only [withWay, State.putWay_dir, readSet_writeSet_same _ _ _ hf, upd_upd] using k

/-- A record freed that was the only one ACTIVE on the way: no ACTIVE pin is left there. -/
theorem activePinAt_freed {s : State} {i : Fin 4} {l : Loc}
    (h : ∀ j : Fin 4, ∀ w ∈ s.pins[j], w.activeAt l = true → j = i) :
    ({ s with pins := upd s.pins i none } : State).activePinAt l = none := by
  refine lowest_eq_none.2 fun j => ?_
  dsimp only
  rw [upd_get]
  split
  · rfl
  · next hij =>
    cases hj : s.pins[j] with
    | none => rfl
    | some w => exact Bool.eq_false_iff.2 fun ha => hij (h j w hj ha).symm

/-! ### The write -/

/-- A write leaves an X or M line X or M (R119). -/
theorem unlockedState_exclusive {st : CopyState} (h : st = .x ∨ st = .m) (mask : List Bool) :
    unlockedState st mask = .x ∨ unlockedState st mask = .m := by
  unfold unlockedState
  split
  · exact .inr rfl
  · exact h

/-- A recall that finds its line X or M, under no ACTIVE pin, takes or reduces the copy (R95, R96). -/
theorem applyRecall_exclusive {s : State} {r : RecallRecord} {l : Loc} {st : CopyState} {x : Addr} {data : LineData}
    (hl : s.lookup r.line = some l) (hp : s.activePinAt l = none) (hw : s.wayAt l = .copy st x data)
    (hs : st = .x ∨ st = .m) : s.applyRecall r = { s with
      dir := (s.putWay l (afterRecall r.kind x data)).dir
      ackCh := ackChAfter s [{ id := r.id, status := if st = .m then .dirty data else .clean }]
      recallCount := s.recallCount - 1 } := by
  rw [applyRecall_copy hl hp hw]
  rcases hs with rfl | rfl <;> exact recallCopy_stable (by simp)

/-- The exempt UNLOCK_WRITE is performed on the record, whatever its window says (R25, R118). -/
theorem exec_comes_unlock {q : Request} {c : Instr} {s u : State} {done : State → State} {len : Nat}
    {mask : List Bool} {bytes : List Byte} {i : Fin 4} (h : ComesToWindow q c s u done)
    (hb : q.body = .unlockWrite len mask bytes) (ho : u.ownPin q.requester (lineOf q.addr) = some i) :
    exec c s = .next (done (u.performUnlock q i mask bytes)) := by
  have hx : u.exempt q = true := by simp only [State.exempt, hb, ho, Option.isSome_some]
  have hw : u.windowCheck q = u.pastWindow q := by simp only [State.windowCheck, hx, if_true]
  rw [exec_comes h, hw]
  simp only [State.pastWindow, hb, State.unlockStep, ho]

/-- The masked bytes are written, the record is freed, the answer is OK, and then the deferred recall is applied
(R119). -/
theorem performUnlock_eq {s : State} {q : Request} {i : Fin 4} {v : Pin} {l : Loc} {deadline : Nat}
    {deferred : Option RecallRecord} {st : CopyState} {x : Addr} {data : LineData} (hn : s.nearLink = .up)
    (hp : s.pins[i] = some v) (hv : v.st = .active l deadline deferred) (hw : s.wayAt l = .copy st x data)
    (mask : List Bool) (bytes : List Byte) :
    s.performUnlock q i mask bytes = (responding { s with
      dir := (s.putWay l (.copy (unlockedState st mask) x (writeBytes data (offsetOf q.addr) mask bytes))).dir
      pins := upd s.pins i none } q .ok).applyHeldRecall deferred := by
  simp only [State.performUnlock, hp, hv, hw]
  exact congrArg (State.applyHeldRecall · deferred) (answer_eq (by exact hn) ..)

/-- Settles O27: the write by `performUnlock_eq`, the deferred recall by the X or M line that the write has left. -/
theorem unlockWritesEndTheirPin : Obligations.UnlockWritesEndTheirPin := by
  intro q c s u done len mask bytes i v loc deadline deferred st data after hc hb hf ho hp hv ⟨hl, hw⟩ hs ha
  subst ha
  have hn := comes_nearLink hc
  have hx := unlockedState_exclusive hs mask
  have e := exec_comes_unlock hc hb ho
  rw [performUnlock_eq hn hp hv hw] at e
  generalize writeBytes data (offsetOf q.addr) mask bytes = after at e ⊢
  generalize unlockedState st mask = st' at e hx ⊢
  refine ⟨fun hd => ⟨_, setBecomes_putWay hf loc _, ?_⟩, fun r hd hr halone =>
    ⟨_, setBecomes_putWay_putWay hf loc (.copy st' (lineOf q.addr) after) _, ?_⟩⟩
  · subst hd
    exact e
  · subst hd
    have hlook := lookup_putWay_same (w := .copy st' (lineOf q.addr) after) hf hl rfl
    have hway := wayAt_putWay u loc loc (.copy st' (lineOf q.addr) after) hf
    rw [if_pos rfl] at hway
    exact e.trans (congrArg (fun t => Host.Outcome.next (done t))
      (applyRecall_exclusive (by rw [hr]; exact hlook) (activePinAt_freed (s := u) halone) (by exact hway) hx))

end Sys2Proof.Machine
end

section
/-! SUPPORT. The far channels: what arrives and departs, in what order and in which bytes (R62, R180). -/

namespace Sys2Proof.Machine

open Sys2Proof.Safety

/-! ### The header of a far request (R180) -/

/-- The header of a far request as a run of numbers. -/
def farRun (kind : Nat) (tag : Tag) (qualifier len : Nat) (addr : Addr) : List (Nat × Nat) :=
  [(1, kind), (1, tag.val), (1, qualifier), (1, len), (6, addr.toNat), (6, 0)]

theorem farHeader_eq (kind : Nat) (tag : Tag) (qualifier len : Nat) (addr : Addr) :
    farHeader (byteOf kind) tag (byteOf qualifier) (byteOf len) addr =
      runBytes (farRun kind tag qualifier len addr) := by
  simp [farHeader, farRun, addrBytes, zeros_eq_leBytes]

@[simp] theorem farHeader_length (kind : Byte) (tag : Tag) (qualifier len : Byte) (addr : Addr) :
    (farHeader kind tag qualifier len addr).length = 16 := by
  simp [farHeader, addrBytes]

/-- A header without a payload behind it. -/
theorem farHeader_layout (kind : Nat) (tag : Tag) (qualifier len : Nat) (addr : Addr) :
    Layout (farHeader (byteOf kind) tag (byteOf qualifier) (byteOf len) addr) 16
      (farFields kind tag qualifier len addr) := by
  rw [farHeader_eq]
  exact layout_runBytes rfl (List.Subset.refl _)

/-- A header with a payload behind it. -/
theorem farHeader_layout_append {kind qualifier len n : Nat} {tag : Tag} {addr : Addr} (payload : List Byte)
    (hn : 16 + payload.length = n) :
    Layout (farHeader (byteOf kind) tag (byteOf qualifier) (byteOf len) addr ++ payload) n
      (farFields kind tag qualifier len addr) := by
  rw [farHeader_eq]
  exact layout_runBytes_append payload hn (List.Subset.refl _)

/-- A header with a run of numbers behind it, as of an atomic's operands. -/
theorem farHeader_layout_run {kind qualifier n : Nat} {tag : Tag} {addr : Addr} (l : List (Nat × Nat))
    (hn : 16 + runSize l = n) :
    Layout (farHeader (byteOf kind) tag (byteOf qualifier) (byteOf 0) addr ++ runBytes l) n
      (farFields kind tag qualifier 0 addr ++ runFields 16 l) := by
  rw [farHeader_eq, ← runBytes_append]
  refine layout_runBytes (by rw [runSize_append, ← hn]; rfl) ?_
  rw [runFields_append]
  exact List.Subset.refl _

/-- What stands behind a header. -/
theorem drop_farHeader (kind : Byte) (tag : Tag) (qualifier len : Byte) (addr : Addr) (payload : List Byte) :
    (farHeader kind tag qualifier len addr ++ payload).drop 16 = payload := by
  rw [← farHeader_length kind tag qualifier len addr, List.drop_left]

/-! ### The payload of a UC_WRITE -/

theorem maskBytes_length (mask : List Bool) : (maskBytes mask).length = (mask.length + 7) / 8 := by
  simp [maskBytes, maskSize]

theorem byteAt_append_left {a : List Byte} (b : List Byte) {i : Nat} (h : i < a.length) :
    byteAt (a ++ b) i = byteAt a i := by
  simp [byteAt, List.getElem?_append_left h]

theorem byteAt_append_right (a b : List Byte) (i : Nat) : byteAt (a ++ b) (a.length + i) = byteAt b i := by
  simp [byteAt, List.getElem?_append_right]

/-- The mask bytes stand behind the header, bit by bit. -/
theorem maskBit_behind_header {h : List Byte} (hh : h.length = 16) {mask : List Bool} (data : List Byte) {i : Nat}
    {bit : Bool} (hb : mask[i]? = some bit) :
    (byteAt (h ++ (maskBytes mask ++ data)) (16 + i / 8)).getLsbD (i % 8) = bit := by
  have hi : i < mask.length := (List.getElem?_eq_some_iff.1 hb).1
  rw [← hh, byteAt_append_right, byteAt_append_left _ (by rw [maskBytes_length]; omega), maskBytes_bit hb]

/-! ### The two layouts -/

/-- A far request's header and payload (R180). -/
theorem farRequestLayout (r : FarRequest) : FarRequestLayout r r.bytes := by
  cases r with
  | fetchS tag line => exact farHeader_layout 1 tag 0 0 line
  | fetchX tag line => exact farHeader_layout 2 tag 0 0 line
  | upgrade tag line => exact farHeader_layout 3 tag 0 0 line
  | writeback tag line retain data =>
    cases retain with
    | keep => exact ⟨farHeader_layout_append (kind := 4) (qualifier := 1) (len := 0) _ (by simp), drop_farHeader ..⟩
    | drop => exact ⟨farHeader_layout_append (kind := 4) (qualifier := 2) (len := 0) _ (by simp), drop_farHeader ..⟩
  | ucRead tag addr len => exact farHeader_layout 5 tag 0 len addr
  | ucWrite tag addr len mask data =>
    simp only [FarRequestLayout, FarRequest.bytes, List.append_assoc]
    refine ⟨farHeader_layout_append (kind := 6) (qualifier := 0) _ (by simp [maskBytes_length]; omega),
      fun i bit hb => maskBit_behind_header (farHeader_length ..) data hb, ?_⟩
    rw [← List.drop_drop, drop_farHeader, ← maskBytes_length, List.drop_left]
  | farAtomic tag addr op =>
    cases op with
    | add v =>
      have h := farHeader_layout_run (kind := 7) (qualifier := 1) (tag := tag) (addr := addr) [(8, v.toNat)] rfl
      rw [runBytes_cons, runBytes_nil, List.append_nil] at h
      exact h
    | swap v =>
      have h := farHeader_layout_run (kind := 7) (qualifier := 2) (tag := tag) (addr := addr) [(8, v.toNat)] rfl
      rw [runBytes_cons, runBytes_nil, List.append_nil] at h
      exact h
    | cas v w =>
      have h := farHeader_layout_run (kind := 7) (qualifier := 131) (tag := tag) (addr := addr)
        [(8, v.toNat), (8, w.toNat)] rfl
      rw [runBytes_cons, runBytes_cons, runBytes_nil, List.append_nil, ← List.append_assoc] at h
      exact h

/-- An acknowledgement's header as a run of numbers. -/
theorem recallAck_bytes (a : RecallAck) : a.bytes =
    runBytes [(1, a.status.code.toNat), (1, a.id.toNat), (2, 0)] ++
      match a.status with
      | .dirty data => data.toList
      | _ => [] := by
  cases h : a.status <;> simp [RecallAck.bytes, zeros_eq_leBytes, h]

/-- An acknowledgement's header, and the line's data with DIRTY (R180). -/
theorem recallAckLayout (a : RecallAck) : RecallAckLayout a a.bytes := by
  obtain ⟨id, status⟩ := a
  rw [recallAck_bytes]
  cases status with
  | dirty data =>
    exact ⟨layout_runBytes_append data.toList (by simp) (List.Subset.refl _), rfl⟩
  | _ => exact layout_runBytes_append [] rfl (List.Subset.refl _)

/-! ### The channels -/

/-- Settles O34: each event by its equation, the bytes by `farRequestLayout` and `recallAckLayout`. -/
theorem farChannelsAreFirstInFirstOut : Obligations.FarChannelsAreFirstInFirstOut := by
  intro s hf
  refine ⟨fun p => ?_, fun r rest h => ⟨farRequestLayout r, ?_⟩, fun a rest h => ⟨recallAckLayout a, ?_⟩⟩
  · simp only [exec, execResponseArrival, hf, if_true]
  · simp only [exec, execFarPacketDeparture, hf, h]
  · simp only [exec, execFarPacketDeparture, hf, h]

end Sys2Proof.Machine
end

section
/-! SUPPORT. The responses that are discarded (R67, R68, R86), and the ends of transactions: write-backs and uncached
transactions completed, FAIL and expiry (R77 to R87). -/

namespace Sys2Proof.Machine

open Sys2Proof.Safety

/-! ### A response of one kind -/

/-- The step `c` takes a response of a kind that it accepts: `f` applies it. -/
theorem exec_accepted {s : State} {p : Packet} {rest : List Packet} {code : Byte} {g : Tag} {t : Txn} {u : State}
    {c : Instr} {f : State → Tag → Txn → List Byte → Option State} (h : TakesResponse s p rest code g t)
    (hc : respKindByte p = code → responseStep p = c ∧ responseApply p = f)
    (hf : f (responseTaken s rest) g t (respPayload p) = some u) : exec c s = .next u := by
  obtain ⟨-, -, hk, -⟩ := id h
  obtain ⟨rfl, rfl⟩ := hc hk
  exact exec_fitting h hf

/-- The kind byte alone decides which step takes a response and what is applied (R180). -/
theorem response_congr {p q : Packet} (h : respKindByte p = respKindByte q) :
    responseStep p = responseStep q ∧ responseApply p = responseApply q := by
  rw [responseStep, responseStep, responseApply, responseApply, h]
  exact ⟨rfl, rfl⟩

theorem grantSData_of_code {p : Packet} (h : respKindByte p = 1) :
    responseStep p = .grantSData ∧ responseApply p = applyGrantSData := response_congr (q := [1]) h

theorem grantXData_of_code {p : Packet} (h : respKindByte p = 2) :
    responseStep p = .grantXData ∧ responseApply p = applyGrantXData := response_congr (q := [2]) h

theorem grantX_of_code {p : Packet} (h : respKindByte p = 3) :
    responseStep p = .grantX ∧ responseApply p = applyGrantX := response_congr (q := [3]) h

theorem wbDone_of_code {p : Packet} (h : respKindByte p = 4) :
    responseStep p = .wbDone ∧ responseApply p = applyWbDone := response_congr (q := [4]) h

theorem ucData_of_code {p : Packet} (h : respKindByte p = 5) :
    responseStep p = .ucData ∧ responseApply p = applyUcData := response_congr (q := [5]) h

theorem ucDone_of_code {p : Packet} (h : respKindByte p = 6) :
    responseStep p = .ucDone ∧ responseApply p = applyUcDone := response_congr (q := [6]) h

theorem atomicResult_of_code {p : Packet} (h : respKindByte p = 7) :
    responseStep p = .atomicResult ∧ responseApply p = applyAtomicResult := response_congr (q := [7]) h

theorem fail_of_code {p : Packet} (h : respKindByte p = 8) :
    responseStep p = .fail ∧ responseApply p = applyFail := response_congr (q := [8]) h

/-! ### What an entry does not accept (R68) -/

/-- A response whose kind or payload length R68 does not accept is not applied. -/
theorem responseApply_unfit {s : State} {g : Tag} {t : Txn} {payload : List Byte} {p : Packet}
    (h : refusesResponse t.kind (respKindByte p).toNat payload.length = true) :
    responseApply p s g t payload = none := by
  generalize hf : responseApply p = f
  unfold responseApply at hf
  split at hf
  all_goals subst hf
  case h_9 => rfl
  all_goals
    rename_i hc
    rw [hc] at h
  case h_1 => cases hk : t.kind <;> simp_all [applyGrantSData, refusesResponse]
  case h_2 => cases hk : t.kind <;> simp_all [applyGrantXData, refusesResponse]
  case h_3 => cases hk : t.kind <;> simp_all [applyGrantX, refusesResponse]
  case h_4 => cases hk : t.kind <;> simp_all [applyWbDone, refusesResponse]
  case h_5 => cases hk : t.kind <;> simp_all [applyUcData, refusesResponse]
  case h_6 => cases hk : t.kind <;> simp_all [applyUcDone, refusesResponse]
  case h_7 => cases hk : t.kind <;> simp_all [applyAtomicResult, refusesResponse]
  case h_8 => cases hk : t.kind <;> simp_all [refusesResponse]

/-! ### Responses that are discarded (R67, conditions 1 to 3) -/

section discarded

variable {s : State} {p : Packet} {g : Tag} {f : State → Tag → Txn → List Byte → Option State}

/-- A tag byte from 32 to 255 names no entry (R180). -/
theorem respond_noEntry (h : 32 ≤ (respTagByte p).toNat) : s.respond p f = s.raiseFarProtocolTag (respTagByte p) := by
  simp only [State.respond, tagOf, dif_neg (Nat.not_lt.2 h)]

theorem respond_free (hg : respTagByte p = byteOf g.val) (h : s.txns[g] = .free) :
    s.respond p f = s.raiseFarProtocolTag (respTagByte p) := by
  simp only [State.respond, hg, tagOf_byteOf, h]

/-- A late response frees its tag, whatever its kind and payload (R86). -/
theorem respond_orphaned (hg : respTagByte p = byteOf g.val) (h : s.txns[g] = .orphaned) :
    s.respond p f = s.releaseTag g := by
  simp only [State.respond, hg, tagOf_byteOf, h]

end discarded

/-- Only an ISSUED entry expires (R84; log 1). -/
theorem expireTxn_idle {s : State} {g : Tag} (h : s.txns[g] = .free ∨ s.txns[g] = .orphaned) :
    exec (.transactionExpiry g) s = .next s := by
  rcases h with h | h <;> simp only [exec, execTransactionExpiry, State.expireTxn, h]

/-- Settles O45: the orphaned tag is freed whatever the response does to ISSUED entries. -/
theorem lateResponsesFreeTheirTag : Obligations.LateResponsesFreeTheirTag := by
  intro s g ho
  refine ⟨fun p rest hr hl hg => ?_, expireTxn_idle (.inr ho), fun hf => ?_⟩
  · rw [exec_response hr hl, respond_orphaned (s := responseTaken s rest) hg ho]
    rfl
  · obtain ⟨hfree, -⟩ := lowest_eq_some.1 hf
    rw [ho] at hfree
    cases hfree

/-- Settles O46: each reason of R67 by its lemma, what an entry does not accept by `responseApply_unfit`. -/
theorem strayResponsesRaiseFarProtocol : Obligations.StrayResponsesRaiseFarProtocol := by
  intro s p rest hr
  refine ⟨fun hl h => ?_, fun hl => ?_⟩
  · rw [exec_response hr hl]
    rcases h with h | ⟨g, hg, ht⟩ | ⟨g, t, hg, ht, hn⟩
    · rw [respond_noEntry h]
      rfl
    · rw [respond_free (s := responseTaken s rest) hg ht]
      rfl
    · rw [respond_unfit (s := responseTaken s rest) hg ht (responseApply_unfit hn)]
      rfl
  · simp only [exec, execShortResponse, hr, if_pos hl]
    rfl

/-! ### GRANT_X to an upgrade that has lost its copy (R77) -/

/-- Settles O40: bytes behind the header fit, and the reissue is one record update. -/
theorem grantWithoutDataIsReissued : Obligations.GrantWithoutDataIsReissued := by
  intro s p rest g t line loc h hk
  refine exec_accepted h grantX_of_code ?_
  simp only [applyGrantX, hk, surplusFits, if_true, issue_eq]
  rfl

/-! ### Write-backs (R78, R81, R84) -/

/-- A way that still holds the line in CLEANING leaves that state at the end of the write-back. -/
theorem endKeep_cleaning {s : State} {x : Addr} {l : Loc} {data : LineData} (h : s.wayAt l = .copy .cleaning x data)
    (after : CopyState) : s.endKeep x l after = s.putWay l (.copy after x data) := by
  simp only [State.endKeep, h, if_true]

/-- Any other way stands. -/
theorem endKeep_other {s : State} {x : Addr} {l : Loc} (h : ∀ data, s.wayAt l ≠ .copy .cleaning x data)
    (after : CopyState) : s.endKeep x l after = s := by
  unfold State.endKeep
  split
  · next y data hw =>
    refine if_neg fun hy => ?_
    subst hy
    exact h data hw
  · rfl

/-- WB_DONE without payload to a WRITEBACK DROP (R78). -/
theorem exec_wbDone_drop {s : State} {p : Packet} {rest : List Packet} {g : Tag} {t : Txn} {x : Addr} {slot : Fin 4}
    (h : TakesResponse s p rest 4 g t) (hl : p.length = 4) (hk : t.kind = .writebackDrop x slot) :
    exec .wbDone s = .next ((((responseTaken s rest).releaseSlot slot).releaseTag g).reportEnd t true) := by
  refine exec_accepted h wbDone_of_code ?_
  simp only [applyWbDone, respPayload_nil hl, surplusFits_nil, if_true, hk]

/-- WB_DONE without payload to a WRITEBACK KEEP (R78). -/
theorem exec_wbDone_keep {s : State} {p : Packet} {rest : List Packet} {g : Tag} {t : Txn} {x : Addr} {l : Loc}
    (h : TakesResponse s p rest 4 g t) (hl : p.length = 4) (hk : t.kind = .writebackKeep x l) :
    exec .wbDone s = .next ((((responseTaken s rest).endKeep x l .x).releaseTag g).reportEnd t true) := by
  refine exec_accepted h wbDone_of_code ?_
  simp only [applyWbDone, respPayload_nil hl, surplusFits_nil, if_true, hk]

/-- Settles O41: the three ends of a write-back, the report to the drain by `reportEnd_eq`. -/
theorem writebacksComplete : Obligations.WritebacksComplete := by
  intro s p rest g t h hl hf
  refine ⟨fun x slot hk => ?_, fun x loc data hk hw => ⟨_, setBecomes_putWay hf loc _, ?_⟩,
    fun x loc hk hw => ?_⟩
  · rw [exec_wbDone_drop h hl hk, reportEnd_eq]
    rfl
  · rw [exec_wbDone_keep h hl hk, endKeep_cleaning (s := responseTaken s rest) hw, reportEnd_eq]
    rfl
  · rw [exec_wbDone_keep h hl hk, endKeep_other (s := responseTaken s rest) hw, reportEnd_eq]
    rfl

/-! ### Uncached transactions (R79) -/

/-- Every waiter of a list is answered OK with the data, in list order. -/
theorem foldl_answerWaiter (ws : List Waiter) (s : State) (data : List Byte) :
    ws.foldl (fun s w => s.answerWaiter w .ok data) s = { s with
      egress := egressAfter s (ws.map fun w => .response w.requester w.id w.access.kind.code .ok data) } := by
  induction ws generalizing s with
  | nil => simp
  | cons w ws ih =>
    have h (m : List NearPacket) : egressAfter (s.answerWaiter w .ok data) m =
        egressAfter s ([.response w.requester w.id w.access.kind.code .ok data] ++ m) := egressAfter_append rfl rfl
    rw [List.foldl_cons, ih, h]
    rfl

theorem completeUncached_eq (s : State) (g : Tag) (t : Txn) (data : List Byte) :
    s.completeUncached g t data = { s with
      txns := upd s.txns g .free
      drain := { s.drain with waiting := false }
      egress := egressAfter s (t.waiters.map fun w =>
        .response w.requester w.id w.access.kind.code .ok data) } := by
  rw [State.completeUncached, foldl_answerWaiter]
  rfl

/-- The three completions of R79, each with the bytes that it returns. -/
theorem responseApply_uncached {p : Packet} {t : Txn} (s : State) (g : Tag)
    (h : (respKindByte p = 5 ∧ ∃ a, t.kind = .ucRead a (respPayload p).length) ∨
      (respKindByte p = 6 ∧ p.length = 4 ∧ ∃ a len, t.kind = .ucWrite a len) ∨
      (respKindByte p = 7 ∧ p.length = 12 ∧ ∃ a, t.kind = .farAtomic a)) :
    responseApply p s g t (respPayload p) = some (s.completeUncached g t (respPayload p)) := by
  rcases h with ⟨hc, a, hk⟩ | ⟨hc, hl, a, len, hk⟩ | ⟨hc, hl, a, hk⟩
  · rw [(ucData_of_code hc).2, applyUcData, hk]
    exact if_pos rfl
  · rw [(ucDone_of_code hc).2, applyUcDone, respPayload_nil hl, surplusFits_nil, if_pos rfl, hk]
  · rw [(atomicResult_of_code hc).2, applyAtomicResult, hk]
    exact if_pos (by rw [respPayload_length, hl])

/-- Settles O42: each completion fits by `responseApply_uncached`, and is `completeUncached_eq`. -/
theorem uncachedTransactionsComplete : Obligations.UncachedTransactionsComplete := by
  intro s p rest code g t h hk
  obtain ⟨-, -, rfl, -⟩ := id h
  rw [exec_fitting h (responseApply_uncached _ _ hk), completeUncached_eq]
  rfl

/-! ### FAIL and expiry (R80 to R84, R87) -/

/-- A fetch or upgrade is abandoned: its waiters answered, its way I, its noted recall acknowledged (R80, R84). -/
theorem abandon_fetch {t : Txn} {l : Loc} (h : t.kind.fetchLoc? = some l) (s : State) (st : RespStatus) :
    s.abandon t st = { s with
      dir := (s.putWay l .i).dir
      pins := pinsWithout s.pins t.waiters
      egress := egressAfter s (waiterAnswers t.waiters st)
      ackCh := ackChAfter s (notHeldAcks t.noted)
      recallCount := s.recallCount - t.noted.toList.length } := by
  have e : s.abandon t st = ((s.answerAll t.waiters st).putWay l .i).dropNoted t.noted := by
    unfold TxnKind.fetchLoc? at h
    unfold State.abandon
    cases hk : t.kind <;> simp_all
  rw [e, dropNoted_eq, answerAll_eq]
  rfl

/-- An entry that names no line is abandoned: its waiters are answered (R82, R84). -/
theorem abandon_lineless {t : Txn} (h : t.kind.line? = none) (s : State) (st : RespStatus) :
    s.abandon t st = { s with
      pins := pinsWithout s.pins t.waiters
      egress := egressAfter s (waiterAnswers t.waiters st) } := by
  rw [← answerAll_eq]
  unfold TxnKind.line? at h
  unfold State.abandon
  cases hk : t.kind <;> simp_all

/-- A WRITEBACK DROP is abandoned: its eviction buffer entry is freed (R81, R84). -/
theorem abandon_drop {t : Txn} {x : Addr} {slot : Fin 4} (h : t.kind = .writebackDrop x slot) (s : State)
    (st : RespStatus) : s.abandon t st = s.releaseSlot slot := by
  simp only [State.abandon, h]

/-- A WRITEBACK KEEP is abandoned: a CLEANING way returns to M (R81, R84). -/
theorem abandon_keep {t : Txn} {x : Addr} {l : Loc} (h : t.kind = .writebackKeep x l) (s : State)
    (st : RespStatus) : s.abandon t st = s.endKeep x l .m := by
  simp only [State.abandon, h]

/-- The end of an entry of origin REQUEST does not concern the drain (R87). -/
theorem reportEnd_request {t : Txn} (h : t.origin = .request) (s : State) (written : Bool) :
    s.reportEnd t written = s := by
  simp only [State.reportEnd, h]

/-- The bytes behind a FAIL's header that fit its entry (R68, R177). -/
theorem fail_fits {p : Packet} {k : TxnKind}
    (h : p.length = 4 ∨ ignoresSurplus k = true ∨ (p.length = 12 ∧ ∃ a, k = .farAtomic a)) :
    surplusFits k 8 (respPayload p) = true := by
  rcases h with h | h | ⟨h, a, rfl⟩
  · rw [respPayload_nil h, surplusFits_nil]
  · exact surplusFits_ignored h ..
  · exact surplusFits_farAtomic a (by rw [respPayload_length, h])

/-- A fitting FAIL abandons the transaction, frees the entry, raises FAR_FAIL and reports the end (R80, R81, R87). -/
theorem exec_fail {s : State} {p : Packet} {rest : List Packet} {g : Tag} {t : Txn} (h : TakesResponse s p rest 8 g t)
    (hf : surplusFits t.kind 8 (respPayload p) = true) :
    exec .fail s = .next (((((responseTaken s rest).abandon t .farFail).releaseTag g).raise .farFail
      { tag := some (byteOf g.val), addr := some t.kind.target }).reportEnd t false) :=
  exec_accepted h fail_of_code (if_pos hf)

/-- Settles O43: what the FAIL abandons by the entry's kind, the report to the drain by `reportEnd_eq`. -/
theorem failsEndTransactions : Obligations.FailsEndTransactions := by
  intro s p rest g t h hl hf
  have e := exec_fail h (fail_fits hl)
  refine ⟨fun loc hk ho => ⟨_, setBecomes_putWay hf loc _, ?_⟩, fun hk ho => ?_, fun x slot hk => ?_,
    fun x loc data hk hw => ⟨_, setBecomes_putWay hf loc _, ?_⟩, fun x loc hk hw => ?_⟩
  · rw [e, reportEnd_request ho, abandon_fetch hk]
    rfl
  · rw [e, reportEnd_request ho, abandon_lineless hk]
    rfl
  · rw [e, reportEnd_eq, abandon_drop hk, hk]
    rfl
  · rw [e, reportEnd_eq, abandon_keep hk, hk, endKeep_cleaning (s := responseTaken s rest) hw]
    rfl
  · rw [e, reportEnd_eq, abandon_keep hk, hk, endKeep_other (s := responseTaken s rest) hw]
    rfl

/-- The state in which an expiring transaction is abandoned: FAR_TIMEOUT has been raised (R84). -/
def State.timedOut (s : State) (g : Tag) (t : Txn) : State :=
  s.raise .farTimeout { tag := some (byteOf g.val), addr := some t.kind.target }

/-- An entry whose deadline is reached expires (R84, R183). -/
theorem exec_expiry {s : State} {g : Tag} {t : Txn} (ht : s.txns[g] = .issued t) (hd : t.deadline ≤ s.now) :
    exec (.transactionExpiry g) s =
      .next ((((s.timedOut g t).abandon t .farTimeout).putEntry g .orphaned).reportEnd t false) := by
  simp only [exec, execTransactionExpiry, State.expireTxn, ht, if_pos hd]
  rfl

/-- Settles O44: as O43, with the tag left ORPHANED. -/
theorem expiriesOrphanTheirTag : Obligations.ExpiriesOrphanTheirTag := by
  intro s g t hf
  refine ⟨fun ht hd => ?_, fun ht hd => ?_, expireTxn_idle⟩
  · have e := exec_expiry ht hd
    refine ⟨fun loc hk ho => ⟨_, setBecomes_putWay hf loc _, ?_⟩, fun hk ho => ?_, fun x slot hk => ?_,
      fun x loc data hk hw => ⟨_, setBecomes_putWay hf loc _, ?_⟩, fun x loc hk hw => ?_⟩
    · rw [e, reportEnd_request ho, abandon_fetch hk]
      rfl
    · rw [e, reportEnd_request ho, abandon_lineless hk]
      rfl
    · rw [e, reportEnd_eq, abandon_drop hk, State.timedOut, hk]
      rfl
    · rw [e, reportEnd_eq, abandon_keep hk, endKeep_cleaning (s := s.timedOut g t) hw, State.timedOut, hk]
      rfl
    · rw [e, reportEnd_eq, abandon_keep hk, endKeep_other (s := s.timedOut g t) hw, State.timedOut, hk]
      rfl
  · simp only [exec, execTransactionExpiry, State.expireTxn, ht, if_neg (Nat.not_le.2 hd)]

end Sys2Proof.Machine
end

section
/-! SUPPORT. The install of a grant and its walk (R52, R69 to R73): one way changes and stands at the front, waiters are
answered, pin records of LOCK_READs become ACTIVE or free, and nothing else of the state changes. -/

namespace Sys2Proof.Machine

open Sys2Proof.Safety

/-! ### What an install and a walk have changed -/

/-- `v` is `u` with the way `l` at the front of its set and holding `w`, the pin records `pins`, and the answers
produced. -/
def Granted (u : State) (l : Loc) (w : Way) (pins : Vector (Option Pin) 4) (answers : List NearPacket) (v : State) :
    Prop :=
  ∃ d, dirWf d = true ∧ SetBecomes u.dir d l.set (withWayInFront u l w) ∧
    v = { u with dir := d, pins := pins, egress := egressAfter u answers }

/-- A way already at the front stays there. -/
theorem toFront_toFront (w : Fin 4) (l : List (Fin 4)) : toFront w (toFront w l) = toFront w l := by
  simp [toFront]

section granted

variable {u v : State} {l : Loc} {w : Way} {pins : Vector (Option Pin) 4} {a : List NearPacket}

/-- The install (R52). -/
theorem granted_install (h : dirWf u.dir = true) (l : Loc) (st : CopyState) (x : Addr) (data : LineData) :
    Granted u l (.copy st x data) u.pins [] (u.install l st x data) :=
  ⟨_, dirWf_touch _ _ (dirWf_putWay _ _ _ h), setBecomes_install h l st x data, by rw [egressAfter_nil]; rfl⟩

theorem Granted.wayAt (h : Granted u l w pins a v) (m : Loc) : v.wayAt m = if l = m then w else u.wayAt m := by
  obtain ⟨d, -, ⟨hs, ho⟩, rfl⟩ := h
  obtain ⟨i, x⟩ := l
  obtain ⟨j, y⟩ := m
  simp only [State.wayAt, Loc.mk.injEq]
  by_cases hij : i = j
  · subst hij
    simp only [hs, withWayInFront, true_and]
    exact upd_get ..
  · rw [ho j (Ne.symm hij), if_neg fun e => hij e.1]

theorem Granted.wayAt_same (h : Granted u l w pins a v) : v.wayAt l = w := by rw [h.wayAt, if_pos rfl]

/-- The lookup finds the line where it was. -/
theorem Granted.lookup {x : Addr} (h : Granted u l w pins a v) (hl : u.lookup x = some l) (hw : w.line? = some x) :
    v.lookup x = some l := by
  obtain ⟨hs, -, hlt⟩ := lookup_eq_some.1 hl
  refine lookup_eq_some.2 ⟨hs, by rw [h.wayAt_same, hw], fun k hk => ?_⟩
  have hne : l ≠ { set := l.set, way := k } := fun e => hk.ne (congrArg Loc.way e).symm
  rw [h.wayAt, if_neg hne]
  exact hlt k hk

/-- The way is replaced again. -/
theorem Granted.putWay (h : Granted u l w pins a v) (w' : Way) : Granted u l w' pins a (v.putWay l w') := by
  obtain ⟨d, hd, hs, rfl⟩ := h
  have k := setBecomes_trans hs (setBecomes_putWay (s := { u with dir := d }) hd l w')
  simp only [withWay, hs.1, withWayInFront, upd_upd] at k
  exact ⟨_, dirWf_putWay _ l w' hd, k, rfl⟩

/-- The way is moved to the front again. -/
theorem Granted.touch (h : Granted u l w pins a v) : Granted u l w pins a (v.touch l) := by
  obtain ⟨d, hd, hs, rfl⟩ := h
  have k := setBecomes_trans hs (setBecomes_touch (s := { u with dir := d }) hd l)
  simp only [hs.1, withWayInFront, toFront_toFront] at k
  exact ⟨_, dirWf_touch _ l hd, k, rfl⟩

theorem Granted.putPin (h : Granted u l w pins a v) (i : Fin 4) (p : Option Pin) :
    Granted u l w (upd pins i p) a (v.putPin i p) := by
  obtain ⟨d, hd, hs, rfl⟩ := h
  exact ⟨d, hd, hs, rfl⟩

theorem Granted.answerWaiter (h : Granted u l w pins a v) (x : Waiter) (st : RespStatus) (bytes : List Byte) :
    Granted u l w pins (a ++ [.response x.requester x.id x.access.kind.code st bytes]) (v.answerWaiter x st bytes) := by
  obtain ⟨d, hd, hs, rfl⟩ := h
  refine ⟨d, hd, hs, ?_⟩
  rw [answerWaiter_eq,
    egressAfter_append (s := u) (t := { u with dir := d, pins := pins, egress := egressAfter u a }) rfl rfl]

theorem Granted.refuse (h : Granted u l w pins a v) (x : Waiter) :
    Granted u l w (pinsWithout pins [x]) (a ++ waiterAnswers [x] .retry) (v.refuse x) := by
  obtain ⟨d, hd, hs, rfl⟩ := h
  refine ⟨d, hd, hs, ?_⟩
  rw [refuse_eq,
    egressAfter_append (s := u) (t := { u with dir := d, pins := pins, egress := egressAfter u a }) rfl rfl]
  rfl

end granted

/-! ### One waiter -/

/-- What a walk does to a line is what each of its waiters does, one after the other. -/
theorem walked_cons (data : LineData) (w : Waiter) (ws : List Waiter) :
    walked data (w :: ws) = ((walked (walked data [w]).1 ws).1,
      (walked data [w]).2.1 || (walked (walked data [w]).1 ws).2.1,
      (walked data [w]).2.2 ++ (walked (walked data [w]).1 ws).2.2) := by
  obtain ⟨r, id, offset, access⟩ := w
  cases access <;> simp [walked]

/-- Behind an activated pin, a waiter of the pin's owner is served as on any line (R73). -/
theorem walkedBehind_owner (data : LineData) (w : Waiter) (ws : List Waiter) :
    walkedBehind w.requester data (w :: ws) = ((walkedBehind w.requester (walked data [w]).1 ws).1,
      (walked data [w]).2.1 || (walkedBehind w.requester (walked data [w]).1 ws).2.1,
      (walked data [w]).2.2 ++ (walkedBehind w.requester (walked data [w]).1 ws).2.2) := by
  rw [walkedBehind, if_pos rfl]

/-- READs leave the line as it is, and are answered from it (R70). -/
theorem walked_reads {ws : List Waiter} (h : ∀ w ∈ ws, w.access.isRead = true) (data : LineData) :
    walked data ws = (data, false, readAnswers data ws) := by
  induction ws with
  | nil => rfl
  | cons w ws ih =>
    obtain ⟨hw, hws⟩ := List.forall_mem_cons.1 h
    obtain ⟨r, id, offset, access⟩ := w
    cases access with
    | read len =>
      simp only [walked, ih hws]
      rfl
    | _ => cases hw

/-- A READ reserves no pin record. -/
theorem pin?_of_isRead {w : Waiter} (h : w.access.isRead = true) : Waiter.pin? w = none := by
  obtain ⟨r, id, offset, access⟩ := w
  cases access with
  | read len => rfl
  | _ => cases h

/-- The line state after a walk: M once a write has been applied (R71). -/
def writtenState (written : Bool) (st : CopyState) : CopyState := if written then .m else st

theorem writtenState_or (a b : Bool) (st : CopyState) :
    writtenState b (writtenState a st) = writtenState (a || b) st := by
  cases a <;> cases b <;> rfl

theorem writtenState_exclusive {st : CopyState} (h : st = .x ∨ st = .m) (b : Bool) :
    writtenState b st = .x ∨ writtenState b st = .m := by
  cases b
  · exact h
  · exact .inr rfl

section walk

variable {u v : State} {l : Loc} {st : CopyState} {x : Addr} {data : LineData} {pins : Vector (Option Pin) 4}
  {a : List NearPacket}

/-- A READ on a line with data, or a WRITE or ATOMIC on an X or M line, of a requester that no pin keeps out, is
performed (R70, R71). -/
theorem Granted.serve (h : Granted u l (.copy st x data) pins a v) {w : Waiter} {o : Option Requester}
    (ho : (o.any fun r => r != w.requester) = false) (hp : Waiter.pin? w = none)
    (hx : (st = .x ∨ st = .m) ∨ w.access.isRead = true) :
    ∃ v', v.walkOne l o w = some (v', o) ∧
      Granted u l (.copy (writtenState (walked data [w]).2.1 st) x (walked data [w]).1) pins
        (a ++ (walked data [w]).2.2) v' := by
  have hw := h.wayAt_same
  refine ⟨v.perform w l x data, ?_, ?_⟩
  · unfold State.walkOne
    cases ha : w.access with
    | read len => simp [ho, hw]
    | lockRead len i => simp [Waiter.pin?, ha] at hp
    | _ =>
      rw [ha] at hx
      simp [ho, hw, hx.resolve_right (by simp [Access.isRead])]
  · obtain ⟨r, id, offset, access⟩ := w
    cases access with
    | read len => exact h.answerWaiter ..
    | write len mask bytes => exact (h.putWay _).answerWaiter ..
    | lockRead len i => cases hp
    | atomic op => exact (h.putWay _).answerWaiter ..

/-- A LOCK_READ on an X or M line activates its pin and is answered with the bytes as they stand (R72, R115). -/
theorem Granted.activate (h : Granted u l (.copy st x data) pins a v) {w : Waiter} {len : Nat} {i : Fin 4} {p : Pin}
    (hx : st = .x ∨ st = .m) (ha : w.access = .lockRead len i) (hi : pins[i] = some p) :
    ∃ v', v.walkOne l none w = some (v', some w.requester) ∧
      Granted u l (.copy st x data)
        (upd pins i (some { p with st := .active l (u.now + u.config.pinTimeout) none }))
        (a ++ [.response w.requester w.id RequestKind.lockRead.code .ok (lineBytes data w.offset len)]) v' := by
  have hw := h.wayAt_same
  have hv : v.pins[i] = some p ∧ v.now = u.now ∧ v.config = u.config := by
    obtain ⟨d, -, -, rfl⟩ := h
    exact ⟨hi, rfl, rfl⟩
  obtain ⟨hvi, hnow, hcfg⟩ := hv
  refine ⟨v.perform w l x data, by simp [State.walkOne, ha, hw, hx], ?_⟩
  have k := ((h.putPin i (some { p with st := .active l (u.now + u.config.pinTimeout) none })).touch).answerWaiter w
    .ok (lineBytes data w.offset len)
  simpa only [State.perform, State.activatePin, ha, hvi, Option.map_some, hnow, hcfg, Access.kind] using k

/-! ### A run of waiters -/

/-- Waiters that are served, one after the other. -/
theorem Granted.walk_served (h : Granted u l (.copy st x data) pins a v) {ahead : List Waiter}
    (hp : ∀ w ∈ ahead, Waiter.pin? w = none) (hx : (st = .x ∨ st = .m) ∨ ∀ w ∈ ahead, w.access.isRead = true)
    (rest : List Waiter) :
    ∃ v', State.walk l (ahead ++ rest) none v = State.walk l rest none v' ∧
      Granted u l (.copy (writtenState (walked data ahead).2.1 st) x (walked data ahead).1) pins
        (a ++ (walked data ahead).2.2) v' := by
  induction ahead generalizing v st data a with
  | nil => exact ⟨v, rfl, by simpa [walked, writtenState] using h⟩
  | cons w ws ih =>
    obtain ⟨hpw, hpws⟩ := List.forall_mem_cons.1 hp
    have hxw : (st = .x ∨ st = .m) ∨ w.access.isRead = true := hx.imp_right fun k => k w List.mem_cons_self
    obtain ⟨v1, e1, h1⟩ := h.serve (o := none) rfl hpw hxw
    obtain ⟨v2, e2, h2⟩ := ih h1 hpws
      (hx.imp (writtenState_exclusive · _) fun k y hy => k y (List.mem_cons_of_mem _ hy))
    refine ⟨v2, ?_, ?_⟩
    · rw [List.cons_append, walk_cons, e1]
      exact e2
    · rw [walked_cons]
      rwa [writtenState_or, List.append_assoc] at h2

/-- Behind an activated pin the waiters of its owner are served and the others refused (R73). -/
theorem Granted.walk_behind (h : Granted u l (.copy st x data) pins a v) (hx : st = .x ∨ st = .m) {owner : Requester}
    {ws : List Waiter} (hp : ∀ w ∈ ws, w.requester = owner → Waiter.pin? w = none) :
    ∃ v', State.walk l ws (some owner) v = (v', []) ∧
      Granted u l (.copy (writtenState (walkedBehind owner data ws).2.1 st) x (walkedBehind owner data ws).1)
        (pinsWithout pins ws) (a ++ (walkedBehind owner data ws).2.2) v' := by
  induction ws generalizing v st data a pins with
  | nil => exact ⟨v, rfl, by simpa [walkedBehind, writtenState, pinsWithout] using h⟩
  | cons w ws ih =>
    obtain ⟨hpw, hpws⟩ := List.forall_mem_cons.1 hp
    rw [pinsWithout_cons]
    by_cases hw : w.requester = owner
    · subst hw
      obtain ⟨v1, e1, h1⟩ := h.serve (o := some w.requester) (by simp) (hpw rfl) (.inl hx)
      obtain ⟨v2, e2, h2⟩ := ih h1 (writtenState_exclusive hx _) hpws
      refine ⟨v2, ?_, ?_⟩
      · rw [walk_cons, e1]
        exact e2
      · rw [walkedBehind_owner, pinsWithout_of_none (ws := [w]) (by simpa using hpw rfl)]
        rwa [writtenState_or, List.append_assoc] at h2
    · have e1 : v.walkOne l (some owner) w = some (v.refuse w, some owner) := by
        simp [State.walkOne, Ne.symm hw]
      obtain ⟨v2, e2, h2⟩ := ih (h.refuse w) hx hpws
      refine ⟨v2, ?_, ?_⟩
      · rw [walk_cons, e1]
        exact e2
      · rw [walkedBehind_other hw]
        rwa [List.append_assoc] at h2

/-- A walk that serves the waiters ahead of a LOCK_READ, activates its pin, and goes on behind it (R70 to R73). -/
theorem Granted.walk_pinned (h : Granted u l (.copy st x data) pins a v) (hx : st = .x ∨ st = .m)
    {ahead ws : List Waiter} {w : Waiter} {len : Nat} {i : Fin 4} {p : Pin} {c b : LineData × Bool × List NearPacket}
    (hp : ∀ y ∈ ahead, Waiter.pin? y = none) (ha : w.access = .lockRead len i) (hi : pins[i] = some p)
    (hws : ∀ y ∈ ws, y.requester = w.requester → Waiter.pin? y = none) (hc : c = walked data ahead)
    (hb : b = walkedBehind w.requester c.1 ws) :
    ∃ v', State.walk l (ahead ++ w :: ws) none v = (v', []) ∧
      Granted u l (.copy (writtenState (c.2.1 || b.2.1) st) x b.1)
        (pinsWithout (upd pins i (some { p with st := .active l (u.now + u.config.pinTimeout) none })) ws)
        (a ++ (c.2.2 ++ .response w.requester w.id RequestKind.lockRead.code .ok (lineBytes c.1 w.offset len) ::
          b.2.2)) v' := by
  subst hb hc
  obtain ⟨v1, e1, h1⟩ := h.walk_served hp (.inl hx) (w :: ws)
  have hx1 := writtenState_exclusive hx (walked data ahead).2.1
  obtain ⟨v2, e2, h2⟩ := h1.activate hx1 ha hi
  obtain ⟨v3, e3, h3⟩ := h2.walk_behind hx1 hws
  refine ⟨v3, ?_, ?_⟩
  · rw [e1, walk_cons, e2]
    exact e3
  · rw [writtenState_or] at h3
    simpa using h3

/-- On an S line a walk stops at the first waiter that needs the line exclusive (R74). -/
theorem Granted.walk_stops (h : Granted u l (.copy .s x data) pins a v) {w : Waiter} (hw : w.access.isRead = false)
    (ws : List Waiter) : State.walk l (w :: ws) none v = (v, w :: ws) := by
  have e : v.walkOne l none w = none := by
    have hs := h.wayAt_same
    unfold State.walkOne
    cases ha : w.access with
    | read len => rw [ha] at hw; cases hw
    | _ => simp [hs]
  rw [walk_cons, e]

end walk

end Sys2Proof.Machine
end

section
/-! SUPPORT. The grants: what fits an entry, and what a walk that ends, stops or activates a pin leaves of it (R68 to
R76). -/

namespace Sys2Proof.Machine

open Sys2Proof.Safety

/-! ### The grant that fits (R68) -/

section fitting

variable {s : State} {p : Packet} {rest : List Packet} {code : Byte} {g : Tag} {t : Txn} {line : Addr} {loc : Loc}
  {data : LineData}

/-- The payload of a packet of 68 bytes is a line. -/
theorem respPayload_line (h : p.length = 68) : (respPayload p).length = 64 := by rw [respPayload_length, h]

/-- GRANT_S_DATA to a fetch installs the line S, and the walk follows (R70). -/
theorem exec_grantSData (h : TakesResponse s p rest 1 g t) (hl : p.length = 68) (hd : data = lineDataOf (respPayload p))
    (hk : t.kind = .fetchS line loc ∨ t.kind = .fetchX line loc) :
    exec .grantSData s = .next (((responseTaken s rest).install loc .s line data).walkAndFinish g t line loc) := by
  refine exec_accepted h grantSData_of_code ?_
  subst hd
  rw [applyGrantSData, if_pos (respPayload_line hl)]
  rcases hk with hk | hk <;> rw [hk]

/-- GRANT_X_DATA to a fetch or an upgrade installs the line X, GRANT_X makes an upgrade's line X with its data, and the
walk follows (R70, R76). -/
theorem exec_exclusiveGrant (h : TakesResponse s p rest code g t)
    (hk : (code = 2 ∧ p.length = 68 ∧ data = lineDataOf (respPayload p) ∧
        (t.kind = .fetchS line loc ∨ t.kind = .fetchX line loc ∨ ∃ b, t.kind = .upgrade line loc b)) ∨
      (code = 3 ∧ t.kind = .upgrade line loc false ∧ s.wayAt loc = .copy .upgrade line data)) :
    exec (responseStep p) s =
      .next (((responseTaken s rest).install loc .x line data).walkAndFinish g t line loc) := by
  obtain ⟨-, -, hc, -⟩ := id h
  refine exec_fitting h ?_
  rcases hk with ⟨rfl, hl, rfl, hk⟩ | ⟨rfl, hk, hw⟩
  · rw [(grantXData_of_code hc).2, applyGrantXData, if_pos (respPayload_line hl)]
    rcases hk with hk | hk | ⟨b, hk⟩ <;> rw [hk]
  · have hw' : (responseTaken s rest).wayAt loc = .copy .upgrade line data := hw
    rw [(grantX_of_code hc).2, applyGrantX, hk, surplusFits, if_pos rfl]
    simp only [hw']

end fitting

/-! ### What the walk leaves of the entry -/

section finish

variable {s v : State} {g : Tag} {t : Txn} {line : Addr} {loc : Loc}

/-- A walk that ended frees the entry (R75). -/
theorem walkAndFinish_ended (h : State.walk loc t.waiters none s = (v, [])) :
    s.walkAndFinish g t line loc = (v.releaseTag g).applyHeldRecall t.noted := by
  simp only [State.walkAndFinish, h]

/-- A walk that stopped continues the entry as an upgrade (R74). -/
theorem walkAndFinish_stopped {w : Waiter} {ws : List Waiter} (h : State.walk loc t.waiters none s = (v, w :: ws)) :
    s.walkAndFinish g t line loc = (v.stopWalk g t line loc (w :: ws)).applyHeldRecall t.noted := by
  simp only [State.walkAndFinish, h]

variable {u : State} {st : CopyState} {x : Addr} {data : LineData} {w : Way} {pins : Vector (Option Pin) 4}
  {a : List NearPacket}

/-- The entry freed behind a walk (R75). -/
theorem Granted.release (h : Granted u loc w pins a v) (g : Tag) :
    ∃ d, SetBecomes u.dir d loc.set (withWayInFront u loc w) ∧ v.releaseTag g = { u with
      dir := d, pins := pins, egress := egressAfter u a, txns := upd u.txns g .free
      drain := { u.drain with waiting := false } } := by
  obtain ⟨d, -, hs, rfl⟩ := h
  exact ⟨d, hs, rfl⟩

/-- The upgrade issued behind a walk that stopped (R74). -/
theorem Granted.reissue (h : Granted u loc w pins a v) (g : Tag) (k : TxnKind) (ws : List Waiter) (o : Origin)
    (r : FarRequest) :
    ∃ d, SetBecomes u.dir d loc.set (withWayInFront u loc w) ∧ v.issue g k ws none o r = { u with
      dir := d, pins := pins, egress := egressAfter u a, txns := upd u.txns g (issuedNow u k ws o)
      reqCh := reqChAfter u [r] } := by
  obtain ⟨d, -, hs, rfl⟩ := h
  exact ⟨d, hs, rfl⟩

/-- A walk that stopped turns its way to UPGRADE, with the data that it holds (R74). -/
theorem Granted.stopWalk (h : Granted u loc (.copy st x data) pins a v) (g : Tag) (t : Txn) (line : Addr)
    (ws : List Waiter) :
    v.stopWalk g t line loc ws =
      (v.putWay loc (.copy .upgrade x data)).issue g (.upgrade line loc false) ws none t.origin (.upgrade g line) := by
  simp only [State.stopWalk, h.wayAt_same]

end finish

/-- Settles O35: the READs are served, and the walk ends. -/
theorem sharedGrantsServeReads : Obligations.SharedGrantsServeReads := by
  intro s p rest g t line loc data h hl hd hk hn hr hf
  obtain ⟨v, e, hv⟩ := (granted_install (u := responseTaken s rest) hf loc .s line data).walk_served
    (fun w hw => pin?_of_isRead (hr w hw)) (.inr hr) []
  rw [List.append_nil, walk_nil] at e
  rw [walked_reads hr] at hv
  obtain ⟨d, hs, ev⟩ := hv.release g
  refine ⟨d, hs, ?_⟩
  rw [exec_grantSData h hl hd hk, walkAndFinish_ended e, hn]
  exact congrArg _ ev

/-- Settles O36: every waiter is served, and the walk ends. -/
theorem exclusiveGrantsWalkTheList : Obligations.ExclusiveGrantsWalkTheList := by
  intro s p rest code g t line loc data h hn hp hf hk
  obtain ⟨v, e, hv⟩ := (granted_install (u := responseTaken s rest) hf loc .x line data).walk_served hp
    (.inl (.inl rfl)) []
  rw [List.append_nil, walk_nil] at e
  obtain ⟨d, hs, ev⟩ := hv.release g
  refine ⟨d, hs, ?_⟩
  rw [exec_exclusiveGrant h hk, walkAndFinish_ended e, hn]
  exact congrArg _ ev

/-- Settles O37: the READs at the head are served, and the walk stops behind them. -/
theorem sharedGrantsStopAtWrites : Obligations.SharedGrantsStopAtWrites := by
  intro s p rest g t line loc data reads w ws h hl hd hk hn hf ht hr hw
  obtain ⟨v, e, hv⟩ := (granted_install (u := responseTaken s rest) hf loc .s line data).walk_served
    (fun w hw => pin?_of_isRead (hr w hw)) (.inr hr) (w :: ws)
  rw [walked_reads hr] at hv
  rw [← ht, hv.walk_stops hw] at e
  obtain ⟨d, hs, ev⟩ := (hv.putWay (.copy .upgrade line data)).reissue g (.upgrade line loc false) (w :: ws) t.origin
    (.upgrade g line)
  refine ⟨d, hs, ?_⟩
  rw [exec_grantSData h hl hd hk, walkAndFinish_stopped e, hn, hv.stopWalk]
  exact congrArg _ ev

/-- Settles O38: the walk of `Granted.walk_pinned` ends. -/
theorem walksActivatePins : Obligations.WalksActivatePins := by
  intro s p rest code g t line loc data ahead w ws len i y a b h hn hf hk ht hp ha hi hws hea heb
  obtain ⟨v, e, hv⟩ := (granted_install (u := responseTaken s rest) hf loc .x line data).walk_pinned (.inl rfl) hp ha hi
    hws hea heb
  rw [← ht] at e
  obtain ⟨d, hs, ev⟩ := hv.release g
  refine ⟨d, hs, ?_⟩
  rw [exec_exclusiveGrant h hk, walkAndFinish_ended e, hn]
  exact congrArg _ ev

end Sys2Proof.Machine
end

section
/-! SUPPORT. The noted recall that meets the line as a walk left it (R75, R98, R99, R101). -/

namespace Sys2Proof.Machine

open Sys2Proof.Safety

/-! ### What a recall looks up -/

section lookups

variable {s : State} {l : Loc} {g : Tag} {t : Txn}

/-- The entry that names a way is the one of lowest tag whose kind does (R38). -/
theorem fetchOf_eq_some : s.fetchOf l = some (g, t) ↔
    s.txns[g] = .issued t ∧ t.kind.fetchLoc? = some l ∧
      ∀ j < g, ∀ u, s.txns[j] = .issued u → u.kind.fetchLoc? ≠ some l := by
  unfold State.fetchOf
  constructor
  · intro h
    split at h
    · next k hk =>
      obtain ⟨hp, hlt⟩ := lowest_eq_some.1 hk
      split at h
      · next u hu =>
        cases h
        rw [hu] at hp
        exact ⟨hu, beq_iff_eq.1 hp, fun j hj v hv => beq_eq_false_iff_ne.1 (by simpa only [hv] using hlt j hj)⟩
      · cases h
    · cases h
  · rintro ⟨hg, hk, hlt⟩
    split
    · next k hl =>
      obtain ⟨hp, hlow⟩ := lowest_eq_some.1 hl
      rcases lt_trichotomy k g with h | rfl | h
      · split at hp
        · next u hu => exact absurd (beq_iff_eq.1 hp) (hlt k h u hu)
        · cases hp
      · simp only [hg]
      · have := hlow g h
        simp [hg, hk] at this
    · next hn =>
      have := lowest_eq_none.1 hn g
      simp [hg, hk] at this

/-- The entry that names a way still does when its contents change but for the way. -/
theorem fetchOf_upd (h : s.fetchOf l = some (g, t)) {v : State} {u : Txn} (hv : v.txns = upd s.txns g (.issued u))
    (hu : u.kind.fetchLoc? = some l) : v.fetchOf l = some (g, u) := by
  obtain ⟨-, -, hlt⟩ := fetchOf_eq_some.1 h
  refine fetchOf_eq_some.2 ⟨by rw [hv, upd_same], hu, fun j hj w hw => hlt j hj w ?_⟩
  rwa [hv, upd_other _ _ _ _ hj.ne'] at hw

/-- The copy lost flag is set in the upgrade that names the way (R98). -/
theorem markCopyLost_eq {x : Addr} {b : Bool} (h : s.fetchOf l = some (g, t)) (hk : t.kind = .upgrade x l b) :
    s.markCopyLost l = { s with txns := upd s.txns g (.issued { t with kind := .upgrade x l true }) } := by
  simp only [State.markCopyLost, h, hk]
  rfl

/-- A freed entry writes nothing back. -/
theorem writebackPending_released {x : Addr} (h : s.writebackPending x = false) (g : Tag) :
    ({ s with txns := upd s.txns g .free } : State).writebackPending x = false := by
  unfold State.writebackPending at h ⊢
  rw [Option.isSome_eq_false_iff, Option.isNone_iff_eq_none, lowest_eq_none] at h ⊢
  intro i
  dsimp only
  rw [upd_get]
  split
  · rfl
  · exact h i

/-- A record activated on a way that no other is ACTIVE on, with those of a list that does not hold it freed: it is the
way's ACTIVE record. -/
theorem activePinAt_activated {i : Fin 4} {ws : List Waiter} {p : Pin} (h : s.activePinAt l = none)
    (hi : ∀ w ∈ ws, Waiter.pin? w ≠ some i) (hp : p.activeAt l = true) :
    ({ s with pins := pinsWithout (upd s.pins i (some p)) ws } : State).activePinAt l = some i := by
  have hfree := lowest_eq_none.1 h
  have hni : ¬ ∃ w ∈ ws, Waiter.pin? w = some i := fun ⟨w, hw, e⟩ => hi w hw e
  refine lowest_eq_some.2 ⟨?_, fun j hj => ?_⟩
  · dsimp only
    rw [pinsWithout_get, if_neg hni, upd_same]
    exact hp
  · dsimp only
    rw [pinsWithout_get, upd_other _ _ _ _ hj.ne']
    split
    · rfl
    · exact hfree j

/-- A record that the list does not hold may be written before or after the list's are freed. -/
theorem upd_pinsWithout {i : Fin 4} {ws : List Waiter} (hi : ∀ w ∈ ws, Waiter.pin? w ≠ some i)
    (pins : Vector (Option Pin) 4) (p q : Option Pin) :
    upd (pinsWithout (upd pins i q) ws) i p = pinsWithout (upd pins i p) ws := by
  have hni : ¬ ∃ w ∈ ws, Waiter.pin? w = some i := fun ⟨w, hw, e⟩ => hi w hw e
  refine table_ext fun j => ?_
  rw [upd_get, pinsWithout_get, pinsWithout_get, upd_get, upd_get]
  by_cases hj : i = j
  · subst hj
    rw [if_pos rfl, if_neg hni, if_pos rfl]
  · simp only [if_neg hj]

end lookups

/-! ### The recall behind a walk -/

section behind

variable {u v : State} {l : Loc} {st : CopyState} {x : Addr} {data : LineData} {pins : Vector (Option Pin) 4}
  {a : List NearPacket} {r : RecallRecord} {g : Tag} {t : Txn}

/-- The recall is acknowledged and counted off behind an entry freed. -/
theorem Granted.release_acked {w : Way} (h : Granted u l w pins a v) (g : Tag) (id : Byte) (status : AckStatus) :
    ∃ d, SetBecomes u.dir d l.set (withWayInFront u l w) ∧ (v.releaseTag g).ackRecall id status = { u with
      dir := d, pins := pins, egress := egressAfter u a, txns := upd u.txns g .free
      drain := { u.drain with waiting := false }
      ackCh := ackChAfter u [{ id := id, status := status }]
      recallCount := u.recallCount - 1 } := by
  obtain ⟨d, -, hs, rfl⟩ := h
  exact ⟨d, hs, rfl⟩

/-- A recall that meets the line in S, X or M behind a walk that ended reduces or takes the copy (R95, R96). -/
theorem Granted.recall_released (h : Granted u l (.copy st x data) u.pins a v) (hst : st = .s ∨ st = .x ∨ st = .m)
    (hr : r.line = x) (hl : u.lookup x = some l) (hp : u.activePinAt l = none) (hw : u.writebackPending x = false)
    (g : Tag) :
    (v.releaseTag g).applyRecall r = ((v.putWay l (afterRecall r.kind x data)).releaseTag g).ackRecall r.id
      (if st = .m then .dirty data else .clean) := by
  subst hr
  have hlv : (v.releaseTag g).lookup r.line = some l := h.lookup hl rfl
  have hwv : (v.releaseTag g).wayAt l = .copy st r.line data := h.wayAt_same
  have hpv : (v.releaseTag g).activePinAt l = none ∧ (v.releaseTag g).writebackPending r.line = false := by
    obtain ⟨d, -, -, rfl⟩ := h
    exact ⟨hp, writebackPending_released hw g⟩
  obtain ⟨hpv, hbv⟩ := hpv
  rw [applyRecall_copy hlv hpv hwv]
  rcases hst with rfl | rfl | rfl
  · rw [recallCopy_stable (by simp), recallAck, hbv]
    rfl
  · exact recallCopy_stable (by simp)
  · exact recallCopy_stable (by simp)

/-- A recall that meets UPGRADE behind a walk that stopped: a DOWNGRADE leaves it, a SURRENDER takes the copy (R98). -/
theorem Granted.recall_stopped (h : Granted u l (.copy .upgrade x data) u.pins a v) (hr : r.line = x)
    (hl : u.lookup x = some l) (hp : u.activePinAt l = none) (hf : u.fetchOf l = some (g, t)) (ws : List Waiter)
    (o : Origin) (q : FarRequest) :
    ∃ d, SetBecomes u.dir d l.set (withWayInFront u l (match r.kind with
        | .downgrade => .copy .upgrade x data
        | .surrender => .fill x)) ∧
      (v.issue g (.upgrade x l false) ws none o q).applyRecall r = { u with
        dir := d, egress := egressAfter u a
        txns := upd u.txns g (issuedNow u (.upgrade x l (r.kind == .surrender)) ws o)
        reqCh := reqChAfter u [q]
        ackCh := ackChAfter u [{ id := r.id, status := match r.kind with
          | .downgrade => .clean
          | .surrender => .upgradePending }]
        recallCount := u.recallCount - 1 } := by
  subst hr
  have hlv : (v.issue g (.upgrade r.line l false) ws none o q).lookup r.line = some l := h.lookup hl rfl
  have hwv : (v.issue g (.upgrade r.line l false) ws none o q).wayAt l = .copy .upgrade r.line data := h.wayAt_same
  have hpv : (v.issue g (.upgrade r.line l false) ws none o q).activePinAt l = none := by
    obtain ⟨d, -, -, rfl⟩ := h
    exact hp
  rw [applyRecall_copy hlv hpv hwv]
  cases hk : r.kind with
  | downgrade =>
    simp only [State.recallCopy, hk]
    obtain ⟨d, -, hs, rfl⟩ := h
    exact ⟨d, hs, rfl⟩
  | surrender =>
    obtain ⟨d, hs, ev⟩ := (h.putWay (.fill r.line)).reissue g (.upgrade r.line l false) ws o q
    refine ⟨d, hs, ?_⟩
    have e : (v.issue g (.upgrade r.line l false) ws none o q).putWay l (.fill r.line) =
      (v.putWay l (.fill r.line)).issue g (.upgrade r.line l false) ws none o q := rfl
    simp only [State.recallCopy, hk]
    rw [e, ev, markCopyLost_eq (fetchOf_upd hf rfl rfl) rfl, upd_upd]
    rfl

/-- A recall that meets the pin that the walk has activated is deferred on its record (R99). -/
theorem Granted.recall_pinned {i : Fin 4} {p : Pin} {deadline : Nat} {ws : List Waiter}
    (h : Granted u l (.copy st x data) (pinsWithout (upd u.pins i (some { p with st := .active l deadline none })) ws)
      a v)
    (hr : r.line = x) (hl : u.lookup x = some l) (hp : u.activePinAt l = none)
    (hi : ∀ w ∈ ws, Waiter.pin? w ≠ some i) (g : Tag) :
    ∃ d, SetBecomes u.dir d l.set (withWayInFront u l (.copy st x data)) ∧
      (v.releaseTag g).applyRecall r = { u with
        dir := d, egress := egressAfter u a, txns := upd u.txns g .free, drain := { u.drain with waiting := false }
        pins := pinsWithout (upd u.pins i (some { p with st := .active l deadline (some r) })) ws } := by
  subst hr
  have hlv : (v.releaseTag g).lookup r.line = some l := h.lookup hl rfl
  obtain ⟨d, -, hs, rfl⟩ := h
  refine ⟨d, hs, ?_⟩
  rw [applyRecall_pinned hlv (by exact activePinAt_activated hp hi (by simp [Pin.activeAt])),
    deferRecall_eq (p := { p with st := .active l deadline none }) ?_ rfl]
  · exact congrArg (fun k => ({ u with
      dir := d, egress := egressAfter u a, txns := upd u.txns g .free, drain := { u.drain with waiting := false }
      pins := k } : State)) (upd_pinsWithout hi ..)
  · exact (pinsWithout_get ..).trans ((if_neg fun ⟨w, hw, e⟩ => hi w hw e).trans (upd_same ..))

end behind

/-- A walk leaves M only where it has applied a write, the grant having installed S or X. -/
theorem writtenState_eq_m {st : CopyState} (h : st = .s ∨ st = .x) (b : Bool) : writtenState b st = .m ↔ b = true := by
  rcases h with rfl | rfl <;> cases b <;> simp [writtenState]

theorem writtenState_stable {st : CopyState} (h : st = .s ∨ st = .x) (b : Bool) :
    writtenState b st = .s ∨ writtenState b st = .x ∨ writtenState b st = .m := by
  cases b
  · exact h.imp_right .inl
  · exact .inr (.inr rfl)

/-- The grants whose walk serves every waiter: GRANT_S_DATA on READs, GRANT_X_DATA on a list without LOCK_READ. -/
theorem exec_servingGrant {s : State} {p : Packet} {rest : List Packet} {code : Byte} {g : Tag} {t : Txn} {line : Addr}
    {loc : Loc} {data : LineData} (h : TakesResponse s p rest code g t) (hl : p.length = 68)
    (hd : data = lineDataOf (respPayload p)) (hf : dirWf s.dir = true)
    (hk : (code = 1 ∧ (t.kind = .fetchS line loc ∨ t.kind = .fetchX line loc) ∧
        ∀ v ∈ t.waiters, v.access.isRead = true) ∨
      (code = 2 ∧ (t.kind = .fetchS line loc ∨ t.kind = .fetchX line loc ∨ t.kind = .upgrade line loc true) ∧
        ∀ v ∈ t.waiters, Waiter.pin? v = none)) :
    ∃ st v, (st = .s ∨ st = .x) ∧ exec (responseStep p) s = .next ((v.releaseTag g).applyHeldRecall t.noted) ∧
      Granted (responseTaken s rest) loc (.copy (writtenState (walked data t.waiters).2.1 st) line
        (walked data t.waiters).1) s.pins (walked data t.waiters).2.2 v := by
  obtain ⟨-, -, hc, -⟩ := id h
  rcases hk with ⟨rfl, hk, hr⟩ | ⟨rfl, hk, hp⟩
  · obtain ⟨v, e, hv⟩ := (granted_install (u := responseTaken s rest) hf loc .s line data).walk_served
      (fun w hw => pin?_of_isRead (hr w hw)) (.inr hr) []
    rw [List.append_nil, walk_nil] at e
    refine ⟨.s, v, .inl rfl, ?_, hv⟩
    rw [(grantSData_of_code hc).1, exec_grantSData h hl hd hk, walkAndFinish_ended e]
  · obtain ⟨v, e, hv⟩ := (granted_install (u := responseTaken s rest) hf loc .x line data).walk_served hp
      (.inl (.inl rfl)) []
    rw [List.append_nil, walk_nil] at e
    refine ⟨.x, v, .inr rfl, ?_, hv⟩
    rw [exec_exclusiveGrant h (.inl ⟨rfl, hl, hd, hk.imp_right (.imp_right fun k => ⟨true, k⟩)⟩), walkAndFinish_ended e]

/-- Settles O39: a walk that ended, stopped or activated a pin, and the recall that meets what it left. -/
theorem notedRecallsMeetTheGrantedLine : Obligations.NotedRecallsMeetTheGrantedLine := by
  intro s p rest code g t line loc data r h hl hd hf hn hr hlook hway hwb hpin hfetch
  obtain ⟨-, -, hc, -⟩ := id h
  refine ⟨fun hk => ?_, fun reads w ws hcode hk ht hreads hw => ?_,
    fun ahead w ws len i y a b hcode hk ht hp ha hi hws hea heb => ?_⟩
  · obtain ⟨st, v, hst, e, hv⟩ := exec_servingGrant h hl hd hf hk
    obtain ⟨d, hs, ev⟩ := (hv.putWay (afterRecall r.kind line (walked data t.waiters).1)).release_acked g r.id
      (if (walked data t.waiters).2.1 then .dirty (walked data t.waiters).1 else .clean)
    refine ⟨d, hs, ?_⟩
    rw [e, hn, State.applyHeldRecall, hv.recall_released (writtenState_stable hst _) hr hlook hpin hwb]
    simp only [writtenState_eq_m hst]
    exact congrArg _ ev
  · subst hcode
    obtain ⟨v, e, hv⟩ := (granted_install (u := responseTaken s rest) hf loc .s line data).walk_served
      (fun w hw => pin?_of_isRead (hreads w hw)) (.inr hreads) (w :: ws)
    rw [walked_reads hreads] at hv
    rw [← ht, hv.walk_stops hw] at e
    obtain ⟨d, hs, ev⟩ := (hv.putWay (.copy .upgrade line data)).recall_stopped hr hlook hpin hfetch (w :: ws) t.origin
      (.upgrade g line)
    refine ⟨d, hs, ?_⟩
    rw [exec_grantSData h hl hd hk, walkAndFinish_stopped e, hn, hv.stopWalk]
    exact congrArg _ ev
  · subst hcode
    obtain ⟨v, e, hv⟩ := (granted_install (u := responseTaken s rest) hf loc .x line data).walk_pinned (.inl rfl) hp ha
      hi (fun u hu => (hws u hu).2) hea heb
    rw [← ht] at e
    obtain ⟨d, hs, ev⟩ := hv.recall_pinned hr hlook hpin (fun u hu => (hws u hu).1) g
    refine ⟨d, hs, ?_⟩
    rw [← (grantXData_of_code hc).1,
      exec_exclusiveGrant h (.inl ⟨rfl, hl, hd, hk.imp_right (.imp_right fun k => ⟨true, k⟩)⟩),
      walkAndFinish_ended e, hn]
    exact congrArg _ ev

end Sys2Proof.Machine
end

section
/-! SUPPORT. The recall unit (05): the arrival checks (R93, R108, R180; log 7), and what a recall taken from the queue
does to the line as it stands (R94 to R100). -/

namespace Sys2Proof.Machine

open Sys2Proof.Safety

/-! ### The arrival checks (R93, R108, R180) -/

/-- While the far link is UP, what is acknowledged is appended. -/
theorem ackChAfter_up {s : State} (h : s.farLink = .up) (l : List RecallAck) : ackChAfter s l = s.ackCh ++ l := by
  simp [ackChAfter, h]

/-- A recall that arrives on an empty recall channel is the one that is examined (log 7). -/
theorem exec_recallArrival {s : State} (hu : s.farLink = .up) (he : s.recallCh = []) (p : Packet) :
    exec (.recallArrival p) s = .next (s.examineRecall p) := by
  have hs : ({ s with recallCh := [] } : State) = s := by rw [← he]
  have hx : ({ s with recallCh := s.recallCh ++ [p] } : State).examineRecalls = s.examineRecall p := by
    rw [State.examineRecalls, he]
    exact congrArg (State.examineRecall · p) hs
  rw [exec, execRecallArrival, if_pos hu, hx]

section checks

variable {s : State} {p : Packet}

/-- A recall shorter than its header, or with 8 recalls unacknowledged, is discarded with FAR_PROTOCOL (R93, R180). -/
theorem examineRecall_discarded (h : p.length < 10 ∨ 8 ≤ s.recallCount) : s.examineRecall p =
    noticed s .farProtocol { recallId := some (recallIdOf p), addr := some (recallLineOf p) } := by
  unfold State.examineRecall
  split
  · rfl
  · next hl =>
    rw [State.checkRecall, if_pos (h.resolve_left hl)]
    rfl

/-- A whole recall of unknown kind, of an unaligned line, or of a line with an unacknowledged recall is acknowledged
REFUSED, with FAR_PROTOCOL (R93, R108). -/
theorem examineRecall_refused (hl : 10 ≤ p.length) (hc : s.recallCount < 8)
    (h : recallKindOf (byteAt p 0) = none ∨ (recallLineOf p).toNat % 64 ≠ 0 ∨
      ∃ r ∈ s.unacknowledged, r.line = recallLineOf p) : s.examineRecall p =
    noticed { s with ackCh := ackChAfter s [{ id := recallIdOf p, status := .refused }] } .farProtocol
      { recallId := some (recallIdOf p), addr := some (recallLineOf p) } := by
  rw [State.examineRecall, if_neg (Nat.not_lt.2 hl), State.checkRecall, if_neg (Nat.not_le.2 hc)]
  cases hk : recallKindOf (byteAt p 0) with
  | none => rfl
  | some k =>
    dsimp only
    split
    · rfl
    · next ha =>
      have hn : ∃ r ∈ s.unacknowledged, r.line = recallLineOf p :=
        (h.resolve_left (by simp [hk])).resolve_left ha
      rw [if_pos (by simpa using hn)]
      rfl

/-- A recall that passes every check joins the tail of the queue and is counted (R93). -/
theorem examineRecall_queued {k : RecallKind} (hl : 10 ≤ p.length) (hc : s.recallCount < 8)
    (hk : recallKindOf (byteAt p 0) = some k) (ha : (recallLineOf p).toNat % 64 = 0)
    (hn : ∀ r ∈ s.unacknowledged, r.line ≠ recallLineOf p) : s.examineRecall p = { s with
      recallQueue := s.recallQueue ++ [{ id := recallIdOf p, line := recallLineOf p, kind := k }]
      recallCount := s.recallCount + 1 } := by
  rw [State.examineRecall, if_neg (Nat.not_lt.2 hl), State.checkRecall, if_neg (Nat.not_le.2 hc), hk]
  dsimp only
  rw [if_neg (not_not.2 ha), if_neg (by simpa using hn)]

end checks

/-- Settles O47: the three outcomes of the examination within the event of the arrival. -/
theorem recallArrivalsAreChecked : Obligations.RecallArrivalsAreChecked := by
  intro s p hu he
  rw [exec_recallArrival hu he p]
  refine ⟨fun h => ?_, fun hl hc h => ?_, fun k hl hc hk ha hn => ?_⟩
  · rw [examineRecall_discarded h]
  · rw [examineRecall_refused hl hc h, ackChAfter_up hu]
  · rw [examineRecall_queued hl hc hk ha hn]

/-! ### A copy that no ACTIVE pin keeps (R94, cases 3 to 6) -/

/-- A copy in UPGRADE stays under a DOWNGRADE, which is acknowledged CLEAN (R98). -/
theorem recallCopy_upgrade_downgrade {s : State} {l : Loc} {r : RecallRecord} (h : r.kind = .downgrade) (x : Addr)
    (data : LineData) : s.recallCopy l r .upgrade x data = { s with
      ackCh := ackChAfter s [{ id := r.id, status := .clean }], recallCount := s.recallCount - 1 } := by
  simp only [State.recallCopy, h]
  rfl

/-- A SURRENDER takes the copy from an UPGRADE, whose entry notes the loss (R98). -/
theorem recallCopy_upgrade_surrender {s : State} {l : Loc} {r : RecallRecord} {x : Addr} {g : Tag} {t : Txn} {b : Bool}
    (h : r.kind = .surrender) (hf : s.fetchOf l = some (g, t)) (hk : t.kind = .upgrade x l b) (data : LineData) :
    s.recallCopy l r .upgrade x data = { s with
      dir := (s.putWay l (.fill x)).dir
      txns := upd s.txns g (.issued { t with kind := .upgrade x l true })
      ackCh := ackChAfter s [{ id := r.id, status := .upgradePending }]
      recallCount := s.recallCount - 1 } := by
  have hp : (s.putWay l (.fill x)).fetchOf l = some (g, t) := hf
  simp only [State.recallCopy, h, markCopyLost_eq hp hk]
  rfl

/-- Settles O48: the recall taken in OPERATING meets the copy, in UPGRADE or in a state that the recall reduces. -/
theorem recallsReduceTheCopy : Obligations.RecallsReduceTheCopy := by
  intro s r rest loc st data hm hq hf ⟨hl, hw⟩ hp
  have e : exec (recallStep r.kind) s =
      .next (({ s with recallQueue := rest } : State).recallCopy loc r st r.line data) := by
    rw [exec_recall hm hq, applyRecall_copy (by exact hl) (by exact hp) (by exact hw)]
  refine ⟨fun hst => ⟨_, setBecomes_putWay hf loc _, ?_⟩, fun hst hk => ?_,
    fun g t hst hk hg ht => ⟨_, setBecomes_putWay hf loc _, ?_⟩⟩
  · rw [e, recallCopy_stable hst]
    cases st <;> rfl
  · subst hst
    rw [hk, recallCopy_upgrade_downgrade hk] at e
    exact e
  · subst hst
    rw [hk, recallCopy_upgrade_surrender hk (by exact hg) ht] at e
    exact e

/-! ### A recall without a copy to take (R94, cases 1, 2 and 7 to 9) -/

/-- Settles O49: the outcomes of `applyRecall` on an absent, a filling and a pinned line, and ISOLATED. -/
theorem recallsWithoutACopyToTake : Obligations.RecallsWithoutACopyToTake := by
  intro s r rest hq
  refine ⟨fun hm => exec_recall_isolated hm hq, fun hm hl => ?_, fun loc g t hm hl hp hw hg => ?_,
    fun loc i v deadline deferred hm hl hp hv ha => ?_⟩
  · rw [exec_recall hm hq, applyRecall_absent (by exact hl)]
    rfl
  · rw [exec_recall hm hq, applyRecall_fill (by exact hl) (by exact hp) (by exact hw), noteRecall_eq (by exact hg)]
  · rw [exec_recall hm hq, applyRecall_pinned (by exact hl) (by exact hp), deferRecall_eq (by exact hv) ha]

end Sys2Proof.Machine
end

section
/-! SUPPORT. The end of an ACTIVE pin, by its deadline and by BREAK_PIN (R102, R120, R122, R153, R183; logs 1, 17). -/

namespace Sys2Proof.Machine

open Sys2Proof.Safety

/-! ### The record freed, and its deferred recall applied (R102) -/

section ending

variable {s : State} {i : Fin 4} {l : Loc} {deferred : Option RecallRecord} {st : CopyState} {data : LineData}

/-- The end of the only pin ACTIVE on an X or M line: the deferred recall meets the line as the owner left it. -/
theorem pinEnded_endPin {x : Addr} (hf : dirWf s.dir = true) (hr : Resident s x l st data) (hs : st = .x ∨ st = .m)
    (hd : ∀ r ∈ deferred, r.line = x) (ha : ∀ j : Fin 4, ∀ w ∈ s.pins[j], w.activeAt l = true → j = i) :
    PinEnded s i l deferred st data (s.endPin i deferred) := by
  cases deferred with
  | none => exact rfl
  | some r =>
    obtain rfl := hd r rfl
    obtain ⟨hl, hw⟩ := hr
    exact ⟨_, setBecomes_putWay hf l _,
      applyRecall_exclusive (s := s.putPin i none) hl (activePinAt_freed ha) hw hs⟩

/-- The end of a pin leaves the near link as it is. -/
theorem nearLink_of_pinEnded {t : State} (h : PinEnded s i l deferred st data t) : t.nearLink = s.nearLink := by
  cases deferred with
  | none =>
    obtain rfl : t = { s with pins := upd s.pins i none } := h
    rfl
  | some r =>
    obtain ⟨d, -, rfl⟩ := h
    rfl

end ending

/-! ### PIN_EXPIRY (R120, R183) -/

section expiry

variable {s : State} {i : Fin 4}

/-- An ACTIVE pin whose deadline is reached ends, and PIN_EXPIRED is raised (R120). -/
theorem expirePin_due {v : Pin} {l : Loc} {deadline : Nat} {deferred : Option RecallRecord} (hv : s.pins[i] = some v)
    (ha : v.st = .active l deadline deferred) (hd : deadline ≤ s.now) : s.expirePin i =
      noticed (s.endPin i deferred) .pinExpired { requester := some v.owner, addr := some v.line } := by
  simp only [State.expirePin, hv, ha, if_pos hd, raise_eq]

/-- No record expires whose deadline lies ahead or that has none (R120, R183; logs 1, 17). -/
theorem expirePin_notDue (h : ∀ v ∈ s.pins[i], ∀ d ∈ Pin.deadline? v, s.now < d) : s.expirePin i = s := by
  unfold State.expirePin
  cases hv : s.pins[i] with
  | none => rfl
  | some v =>
    dsimp only
    cases hst : v.st with
    | waiting l => rfl
    | active l deadline deferred =>
      have hd : s.now < deadline := h v hv deadline (by simp [Pin.deadline?, hst])
      exact if_neg (Nat.not_le.2 hd)

end expiry

/-! ### BREAK_PIN (R122, R153) -/

section breakPin

variable {s : State} {p : Packet}

/-- A manager's BREAK_PIN is executed after its credit is returned (R151). -/
theorem exec_breakPin {rest : List Packet} (hm : FromManager s p) (h : TakesCommand s p rest 12) :
    exec .breakPin s = .next (runBreakPin (credited s p rest) p) := by
  have e := exec_command h hm
  have hc : (commandByte p).toNat = 12 := by rw [h.2.2.2.1]; rfl
  simpa only [managementStep, managementRun, hc] using e

/-- BREAK_PIN of an ACTIVE record ends its pin (R122). -/
theorem runBreakPin_active {i : Fin 4} {v : Pin} {l : Loc} {deadline : Nat} {deferred : Option RecallRecord}
    (h : slotByte p = i.val) (hv : s.pins[i] = some v) (ha : v.st = .active l deadline deferred) :
    runBreakPin s p = (s.endPin i deferred).reply p .ok (.brokenPin v.owner v.line) := by
  simp only [runBreakPin, index?_of_eq h, hv, ha]

/-- BREAK_PIN of an index out of range (R153). -/
theorem runBreakPin_outOfRange (h : 4 ≤ slotByte p) : runBreakPin s p = s.reply p .invalidEntry := by
  simp only [runBreakPin, index?_of_ge h]

/-- BREAK_PIN of a WAITING or free record (R153). -/
theorem runBreakPin_notActive {k : Fin 4} (h : slotByte p = k.val) (hk : ∀ w ∈ s.pins[k], w.isActive = false) :
    runBreakPin s p = s.reply p .notFound := by
  simp only [runBreakPin, index?_of_eq h]
  cases hv : s.pins[k] with
  | none => rfl
  | some v =>
    dsimp only
    cases hst : v.st with
    | waiting l => rfl
    | active l deadline deferred => exact absurd (hk v hv) (by simp [Pin.isActive, hst])

end breakPin

/-- Settles O50: the end of an ACTIVE pin either way, the refusals of BREAK_PIN, and the pins that do not expire. -/
theorem pinsEnd : Obligations.PinsEnd := by
  refine ⟨fun s i v loc deadline deferred st data hv ha hf hr hs hd halone =>
      ⟨fun hnow => ⟨_, pinEnded_endPin hf hr hs hd halone, ?_⟩, fun p rest h hm hi => ?_⟩,
    fun s p rest h hm => ⟨fun hi => ?_, fun k hi hk => ?_⟩, fun s i h => ?_⟩
  · rw [exec, execPinExpiry, expirePin_due hv ha hnow]
  · have hend := pinEnded_endPin (s := credited s p rest) hf hr hs hd halone
    refine ⟨_, hend, ?_⟩
    rw [exec_breakPin hm h, runBreakPin_active (s := credited s p rest) hi hv ha,
      reply_eq ((nearLink_of_pinEnded hend).trans h.1)]
  · rw [exec_breakPin hm h, runBreakPin_outOfRange hi, reply_eq (s := credited s p rest) h.1]
  · rw [exec_breakPin hm h, runBreakPin_notActive (s := credited s p rest) hi hk,
      reply_eq (s := credited s p rest) h.1]
  · rw [exec, execPinExpiry, expirePin_notDue h]

end Sys2Proof.Machine
end

section
/-! SUPPORT. Step 6 of admission where the pin table refuses the request (R113, conditions 1 and 2; R118). -/

namespace Sys2Proof.Machine

open Sys2Proof.Safety

/-! ### The bodies that step 6 handles -/

/-- The test for a LOCK_READ finds nothing else. -/
theorem isLockRead_iff {b : RequestBody} : b.isLockRead = true ↔ ∃ len, b = .lockRead len := by
  cases b <;> simp [RequestBody.isLockRead]

/-- The body of an UNLOCK_WRITE carries its length, mask and bytes (R2). -/
theorem kind_eq_unlockWrite_iff {b : RequestBody} :
    b.kind = .unlockWrite ↔ ∃ len mask bytes, b = .unlockWrite len mask bytes := by
  cases b <;> simp [RequestBody.kind]

/-! ### What step 6 answers -/

section refusals

variable {s : State} {q : Request}

/-- Condition 1 of R113: the requester holds a pin record, WAITING or ACTIVE. -/
theorem pastWindow_nestedLock (hb : q.body.isLockRead = true) (hp : s.hasPin q.requester = true) :
    s.pastWindow q = s.answer q .nestedLock := by
  obtain ⟨len, hb⟩ := isLockRead_iff.1 hb
  simp only [State.pastWindow, hb, State.lockStep, hp, if_true]

/-- Condition 2 of R113: all four pin records are held. -/
theorem pastWindow_pinTableFull (hb : q.body.isLockRead = true) (hp : s.hasPin q.requester = false)
    (hf : s.freePinRecord = none) : s.pastWindow q = s.answer q .retry := by
  obtain ⟨len, hb⟩ := isLockRead_iff.1 hb
  simp only [State.pastWindow, hb, State.lockStep, hp, hf, Bool.false_eq_true, if_false]

/-- R118: no ACTIVE pin of the requester on the line, and nothing is written. -/
theorem pastWindow_lockBroken (hb : q.body.kind = .unlockWrite) (hp : s.ownPin q.requester (lineOf q.addr) = none) :
    s.pastWindow q = s.answer q .lockBroken := by
  obtain ⟨len, mask, bytes, hb⟩ := kind_eq_unlockWrite_iff.1 hb
  simp only [State.pastWindow, hb, State.unlockStep, hp]

end refusals

/-- A request that steps 6 and 7 only answer: its command produces the one response and changes nothing else. -/
theorem exec_comes_past_answer {q : Request} {c : Instr} {s u : State} {done : State → State} {st : RespStatus}
    (h : ComesToWindow q c s u done) (hd : ReachesDirectory u q) (ha : u.pastWindow q = u.answer q st) :
    exec c s = .next (done (responding u q st)) := by
  rw [exec_comes_past h hd, ha, answer_eq (comes_nearLink h)]

/-- Settles O28: each refusal is the one answer of step 6, given while the near link is UP. -/
theorem pinTableRefusals : Obligations.PinTableRefusals := by
  intro q c s u done h hd
  refine ⟨fun hb hp => ?nestedLock, fun hb hp hf => ?full, fun hb hp => ?lockBroken⟩
  case nestedLock => exact exec_comes_past_answer h hd (pastWindow_nestedLock hb hp)
  case full => exact exec_comes_past_answer h hd (pastWindow_pinTableFull hb hp hf)
  case lockBroken => exact exec_comes_past_answer h hd (pastWindow_lockBroken hb hp)

end Sys2Proof.Machine
end

section
/-! SUPPORT. The watch check of a taken request: which requests an entry matches, and what a CAPTURE or HOLD entry does
with one (R131, R133, R135). -/

namespace Sys2Proof.Machine

open Sys2Proof.Safety

/-! ### Matching and counting (R131) -/

/-- Two ranges, neither of them empty, have a byte in common. -/
theorem overlaps_iff {e : WatchEntry} {q : Request} (h : 1 ≤ q.body.len) :
    e.overlaps q.addr q.body.len = true ↔ ∃ b, CommonByte e q b := by
  have hregion : 0 < 2 ^ e.exponent := Nat.two_pow_pos _
  simp only [WatchEntry.overlaps, CommonByte, Bool.and_eq_true, decide_eq_true_eq]
  constructor
  · rintro ⟨ha, hb⟩
    exact ⟨max q.addr.toNat e.base.toNat, by omega⟩
  · rintro ⟨b, hb⟩
    omega

theorem matches_iff {e : WatchEntry} {q : Request} (h : 1 ≤ q.body.len) : e.matches q = true ↔
    e.enable = true ∧ (∃ b, CommonByte e q b) ∧ e.kinds.getLsbD q.body.kind.watchBit = true ∧
      e.mask.getLsbD q.requester.val = true := by
  simp only [WatchEntry.matches, Bool.and_eq_true, overlaps_iff h, and_assoc]

theorem hit_eq {e : WatchEntry} (h : e.hits ≤ 4294967295) :
    e.hit = { e with hits := min 4294967295 (e.hits + 1) } := by
  have hn : (if 4294967295 ≤ e.hits then e.hits else e.hits + 1) = min 4294967295 (e.hits + 1) := by split <;> omega
  rw [WatchEntry.hit, hn]

theorem matchesWith_iff (s : State) (q : Request) (a : WatchAction) :
    s.matchesWith q a = true ↔ ∃ i : Fin 8, s.watch[i].matches q = true ∧ s.watch[i].action = a := by
  simp [State.matchesWith]

/-! ### Capture and hold (R133, R135) -/

/-- A capture changes no hold slot. -/
@[simp] theorem captured_holds (s : State) (c : Capture) (d : NoticeDetail) : (captured s c d).holds = s.holds := by
  unfold captured
  split <;> rfl

section admitted

variable {s : State} {p : Packet} {rest : List Packet} {q : Request}

/-- The capture of a taken request, its hits counted, is the record of its watch check. -/
theorem captureRequest_counted (slot : Option (Fin 4)) :
    ((credited s p rest).countHits q).captureRequest q ((credited s p rest).matching q) slot =
      captured (counted s p rest q) (captureOf s q slot) (captureLost q) := by
  rw [captureRequest_eq]
  rfl

/-- A request that a HOLD entry matches is captured, and placed in the free slot (R135). -/
theorem admit_held {i : Fin 4} (hl : s.heldOnLine q.requester (lineOf q.addr) = false)
    (hh : s.matchesWith q .hold = true) (hf : s.freeHold = some i) :
    (credited s p rest).admitRequest q = noticed
      { captured (counted s p rest q) (captureOf s q (some i)) (captureLost q) with holds := upd s.holds i (some q) }
      .hold { requester := some q.requester, addr := some q.addr, slot := some i } := by
  have hf : (credited s p rest).freeHold = some i := hf
  simp only [State.admitRequest, credited_heldOnLine, hl, Bool.false_eq_true, if_false, State.watchCheck,
    credited_matchesWith, hh, if_true, hf, captureRequest_counted, State.holdRequest, captured_holds, counted_holds,
    raise_eq]

/-- A request that a HOLD entry matches is captured, and answered RETRY when all slots are held (R135). -/
theorem admit_unheld (hn : s.nearLink = .up) (hl : s.heldOnLine q.requester (lineOf q.addr) = false)
    (hh : s.matchesWith q .hold = true) (hf : s.freeHold = none) :
    (credited s p rest).admitRequest q =
      responding (captured (counted s p rest q) (captureOf s q none) (captureLost q)) q .retry := by
  have hf : (credited s p rest).freeHold = none := hf
  simp only [State.admitRequest, credited_heldOnLine, hl, Bool.false_eq_true, if_false, State.watchCheck,
    credited_matchesWith, hh, if_true, hf, captureRequest_counted]
  exact answer_eq (by rw [captured_nearLink]; exact hn) ..

/-- A captured request that no entry holds is answered ISOLATED at the mode check (R13). -/
theorem admit_captured_isolated (hn : s.nearLink = .up) (hl : s.heldOnLine q.requester (lineOf q.addr) = false)
    (hh : s.matchesWith q .hold = false) (hc : s.matchesWith q .capture = true) (hm : s.mode = .isolated) :
    (credited s p rest).admitRequest q =
      responding (captured (counted s p rest q) (captureOf s q none) (captureLost q)) q .isolated := by
  rw [admit_captured hl hh hc]
  simp only [State.admitFromMode, captured_mode, counted_mode, hm]
  exact answer_eq (by rw [captured_nearLink]; exact hn) ..

end admitted

/-- Settles O21: the matching law entry by entry, then the request's step by what the watch check finds. -/
theorem watchEntriesCaptureAndHold : Obligations.WatchEntriesCaptureAndHold := by
  refine ⟨fun e q hq => ?_, fun e => hit_eq, matchesWith_iff, fun s p rest q h hl => ⟨?_, ?_, ?_, ?_⟩⟩
  · rw [matches_iff hq]
    rfl
  · intro i hh hf
    rw [exec_request h, admit_held hl hh hf]
  · intro hh hf
    rw [exec_request h, admit_unheld h.1 hl hh hf]
  · refine fun hh hc => ⟨fun hm => ?_, fun hm => ?_⟩
    · rw [exec_request h, admit_captured_isolated h.1 hl hh hc hm]
    · exact exec_comes (.captured h hl hh hc hm)
  · intro hh hc hm
    exact exec_window h ⟨hl, hc, hh, hm⟩

end Sys2Proof.Machine
end

section
/-! SUPPORT. How an occurrence is recorded, and which work of the part records one (R163). -/

namespace Sys2Proof.Machine

open Sys2Proof.Safety

/-! ### The recording of an occurrence (R163) -/

section recording

variable {enabled : BitVec 7} {kind : NoticeKind} {detail : NoticeDetail} {set : List Notice}

/-- An occurrence of a kind that is not enabled is lost. -/
theorem recordOccurrence_disabled (h : enabled.getLsbD kind.bit = false) :
    recordOccurrence enabled kind detail set = set := by
  simp [recordOccurrence, h]

/-- An occurrence of an enabled kind that is not pending enters at the end. -/
theorem recordOccurrence_new (h : enabled.getLsbD kind.bit = true) (hn : ∀ n ∈ set, n.kind ≠ kind) :
    recordOccurrence enabled kind detail set = set ++ [{ kind := kind, detail := detail, count := 1 }] := by
  have ha : set.any (fun n => n.kind == kind) = false := by simpa using hn
  simp only [recordOccurrence, h, ha, Bool.false_eq_true, if_true, if_false]

/-- An occurrence of an enabled kind that is pending counts its notice again. -/
theorem recordOccurrence_pending (h : enabled.getLsbD kind.bit = true) (hp : ∃ n ∈ set, n.kind = kind) :
    recordOccurrence enabled kind detail set = set.map fun n => if n.kind = kind then n.again else n := by
  have ha : set.any (fun n => n.kind == kind) = true := by simpa using hp
  simp only [recordOccurrence, h, ha, if_true]

theorem again_eq {n : Notice} (h : n.count ≤ 255) : n.again = { n with count := min 255 (n.count + 1) } := by
  have hc : (if 255 ≤ n.count then n.count else n.count + 1) = min 255 (n.count + 1) := by split <;> omega
  rw [Notice.again, hc]

/-- The one notice of the kind is counted again in its place. -/
theorem recordOccurrence_again {before after : List Notice} {n : Notice} (h : enabled.getLsbD kind.bit = true)
    (hn : n.kind = kind) (ho : ∀ m ∈ before ++ after, m.kind ≠ kind) :
    recordOccurrence enabled kind detail (before ++ n :: after) = before ++ n.again :: after := by
  have same {l : List Notice} (hl : ∀ m ∈ l, m.kind ≠ kind) :
      l.map (fun m => if m.kind = kind then m.again else m) = l :=
    (List.map_congr_left fun m hm => if_neg (hl m hm)).trans (List.map_id' l)
  obtain ⟨hb, ha⟩ := List.forall_mem_append.1 ho
  rw [recordOccurrence_pending h ⟨n, by simp, hn⟩, List.map_append, List.map_cons, same hb, same ha, if_pos hn]

/-- A recorded occurrence leaves one notice a kind, each with a count from 1 to 255. -/
theorem noticeForm_recordOccurrence
    (h : (set.map Notice.kind).Nodup ∧ ∀ n ∈ set, 1 ≤ n.count ∧ n.count ≤ 255) :
    ((recordOccurrence enabled kind detail set).map Notice.kind).Nodup ∧
      ∀ n ∈ recordOccurrence enabled kind detail set, 1 ≤ n.count ∧ n.count ≤ 255 := by
  obtain ⟨hk, hc⟩ := h
  cases he : enabled.getLsbD kind.bit with
  | false =>
    rw [recordOccurrence_disabled he]
    exact ⟨hk, hc⟩
  | true =>
    by_cases hp : ∃ n ∈ set, n.kind = kind
    · have kinds (n : Notice) : (if n.kind = kind then n.again else n).kind = n.kind := by split <;> rfl
      rw [recordOccurrence_pending he hp, List.map_map]
      refine ⟨(List.map_congr_left fun n _ => kinds n) ▸ hk, ?_⟩
      intro m hm
      obtain ⟨n, hn, rfl⟩ := List.mem_map.1 hm
      have hr := hc n hn
      split
      · rw [again_eq hr.2]
        dsimp only
        omega
      · exact hr
    · push Not at hp
      rw [recordOccurrence_new he hp, List.map_append, List.nodup_append]
      refine ⟨⟨hk, by simp, by simpa using hp⟩, ?_⟩
      simpa [or_imp, forall_and] using hc

end recording

theorem noticeForm_raise {s : State} (h : NoticeForm s) (k : NoticeKind) (d : NoticeDetail) :
    NoticeForm (s.raise k d) :=
  noticeForm_recordOccurrence h

/-- The oldest notice leaves the set. -/
theorem noticeForm_of_tail {s t : State} {n : Notice} (h : NoticeForm s) (hn : s.notices = n :: t.notices) :
    NoticeForm t := by
  obtain ⟨hk, hc⟩ := h
  rw [hn] at hk hc
  exact ⟨(List.nodup_cons.1 hk).2, fun m hm => hc m (List.mem_cons_of_mem _ hm)⟩

/-! ### Work that records no occurrence -/

section silent

variable (s : State) (w : Waiter) (l : Loc) (x : Addr) (data : LineData) (r : RecallRecord) (q : Request) (g : Tag)
  (t : Txn)

@[simp] theorem freeWaiterPin_notices : (s.freeWaiterPin w).notices = s.notices := by rw [freeWaiterPin_eq]

@[simp] theorem refuse_notices : (s.refuse w).notices = s.notices := by rw [refuse_eq]

@[simp] theorem answerAll_notices (ws : List Waiter) (st : RespStatus) : (s.answerAll ws st).notices = s.notices := by
  rw [answerAll_eq]

@[simp] theorem recordWay_notices : (s.recordWay w l).notices = s.notices := by
  unfold State.recordWay
  repeat' split
  all_goals rfl

@[simp] theorem evict_notices (i : Fin 4) (why : EvictionOrigin) (o : Origin) :
    (s.evict l x data i g why o).notices = s.notices := rfl

/-- A recall applied to its line is acknowledged, noted or deferred (R94). -/
@[simp] theorem applyRecall_notices : (s.applyRecall r).notices = s.notices := by
  unfold State.applyRecall State.deferRecall State.noteRecall State.recallCopy State.markCopyLost
  repeat' split
  all_goals rfl

@[simp] theorem applyHeldRecall_notices (o : Option RecallRecord) : (s.applyHeldRecall o).notices = s.notices := by
  cases o
  · rfl
  · exact applyRecall_notices s _

@[simp] theorem dropNoted_notices (o : Option RecallRecord) : (s.dropNoted o).notices = s.notices := by
  rw [dropNoted_eq]

theorem takeRecall_notices (k : RecallKind) : (s.takeRecall k).notices = s.notices := by
  unfold State.takeRecall
  dsimp only
  repeat' split
  all_goals simp

/-! Pins and the directory. -/

@[simp] theorem endPin_notices (i : Fin 4) (o : Option RecallRecord) : (s.endPin i o).notices = s.notices := by
  simp [State.endPin]

@[simp] theorem unlockStep_notices (mask : List Bool) (bytes : List Byte) :
    (s.unlockStep q mask bytes).notices = s.notices := by
  unfold State.unlockStep State.performUnlock
  dsimp only
  repeat' split
  all_goals simp

@[simp] theorem joinList_notices : (s.joinList w l).notices = s.notices := by
  unfold State.joinList
  repeat' split
  all_goals simp

@[simp] theorem issueUpgrade_notices : (s.issueUpgrade w l x data).notices = s.notices := by
  unfold State.issueUpgrade
  split <;> simp

@[simp] theorem perform_notices : (s.perform w l x data).notices = s.notices := by
  unfold State.perform State.activatePin
  split <;> simp

@[simp] theorem resident_notices : (s.resident w l).notices = s.notices := by
  unfold State.resident
  repeat' split
  all_goals simp

@[simp] theorem allocate_notices : (s.allocate w x l g).notices = s.notices := by
  unfold State.allocate State.fetch
  split <;> simp

@[simp] theorem miss_notices : (s.miss w x).notices = s.notices := by
  unfold State.miss
  dsimp only
  repeat' split
  all_goals simp

@[simp] theorem directory_notices : (s.directory w x).notices = s.notices := by
  unfold State.directory
  repeat' split
  all_goals simp

@[simp] theorem removeCopy_notices : (s.removeCopy q w).notices = s.notices := by
  unfold State.removeCopy State.issueUncached
  dsimp only
  repeat' split
  all_goals rfl

@[simp] theorem pastWindow_notices : (s.pastWindow q).notices = s.notices := by
  unfold State.pastWindow State.toDirectory State.lockStep State.toDirectory
  repeat' split
  all_goals simp [State.reservePin]

@[simp] theorem windowCheck_notices : (s.windowCheck q).notices = s.notices := by
  unfold State.windowCheck
  dsimp only
  repeat' split
  all_goals simp

theorem admitFromMode_notices : (s.admitFromMode q).notices = s.notices := by
  unfold State.admitFromMode
  split <;> simp

/-! The drain engine. -/

@[simp] theorem endScan_notices : s.endScan.notices = s.notices := by
  rw [endScan_eq, completeDrain_eq]
  split <;> rfl

@[simp] theorem stopDrain_notices (st : MgmtStatus) : (s.stopDrain st).notices = s.notices := by rw [stopDrain_eq]

@[simp] theorem reportEnd_notices (b : Bool) : (s.reportEnd t b).notices = s.notices := by rw [reportEnd_eq]

@[simp] theorem advanceCursor_notices : s.advanceCursor.notices = s.notices := by
  unfold State.advanceCursor
  dsimp only
  repeat' split
  all_goals simp

theorem visit_notices : s.visit.notices = s.notices := by
  unfold State.visit State.visitWay State.visitPinned State.visitKeep State.visitDrop State.visitClean
    State.countOutstanding State.waitAtWay
  repeat' split
  all_goals simp

/-! Grants and the ends of entries. -/

@[simp] theorem install_notices (st : CopyState) : (s.install l st x data).notices = s.notices := rfl

theorem walkOne_notices {o o' : Option Requester} {u : State} (h : s.walkOne l o w = some (u, o')) :
    u.notices = s.notices := by
  unfold State.walkOne at h
  split at h
  · cases h; exact refuse_notices s w
  · split at h
    · split at h
      · cases h; exact perform_notices ..
      · split at h <;> cases h; exact perform_notices ..
      · split at h <;> cases h; exact perform_notices ..
    · cases h

theorem walk_notices (ws : List Waiter) (o : Option Requester) : (State.walk l ws o s).1.notices = s.notices := by
  induction ws generalizing s o with
  | nil => rfl
  | cons w ws ih =>
    rw [walk_cons]
    split
    · next h => exact (ih _ _).trans (walkOne_notices s w l h)
    · rfl

@[simp] theorem stopWalk_notices (ws : List Waiter) : (s.stopWalk g t x l ws).notices = s.notices := by
  unfold State.stopWalk
  dsimp only
  split <;> simp

@[simp] theorem walkAndFinish_notices : (s.walkAndFinish g t x l).notices = s.notices := by
  have hw := walk_notices s l t.waiters none
  unfold State.walkAndFinish
  split
  · next h => rw [h] at hw; simpa using hw
  · next h => rw [h] at hw; simpa using hw

@[simp] theorem endKeep_notices (after : CopyState) : (s.endKeep x l after).notices = s.notices := by
  unfold State.endKeep
  repeat' split
  all_goals simp

@[simp] theorem abandon_notices (st : RespStatus) : (s.abandon t st).notices = s.notices := by
  unfold State.abandon
  split <;> simp

@[simp] theorem completeUncached_notices (bytes : List Byte) : (s.completeUncached g t bytes).notices = s.notices := by
  rw [completeUncached_eq]

end silent

/-! ### Work that leaves the watch unit as it is -/

/-- The watch entries, the capture queue and the next sequence number stand, and the notice set keeps its form. -/
structure KeepsRecords (s t : State) : Prop where
  watch : t.watch = s.watch
  captures : t.captures = s.captures
  nextSeq : t.nextSeq = s.nextSeq
  notices : NoticeForm s → NoticeForm t

/-- The watch unit and the notice set stand. -/
theorem KeepsRecords.of_same {s t : State} (hw : t.watch = s.watch) (hc : t.captures = s.captures)
    (hq : t.nextSeq = s.nextSeq) (hn : t.notices = s.notices) : KeepsRecords s t :=
  ⟨hw, hc, hq, fun h => by unfold NoticeForm; rwa [hn]⟩

theorem KeepsRecords.refl (s : State) : KeepsRecords s s := .of_same rfl rfl rfl rfl

theorem KeepsRecords.trans {s t u : State} (h : KeepsRecords s t) (k : KeepsRecords t u) : KeepsRecords s u :=
  ⟨k.watch.trans h.watch, k.captures.trans h.captures, k.nextSeq.trans h.nextSeq, k.notices ∘ h.notices⟩

/-- Work within the part that records no occurrence. -/
theorem Within.keepsRecords {s t : State} (h : Within s t) (hn : t.notices = s.notices) : KeepsRecords s t :=
  .of_same h.watch h.captures h.nextSeq hn

/-- A step at a time over a list. -/
theorem KeepsRecords.foldl {α : Type} {f : State → α → State} (h : ∀ s a, KeepsRecords s (f s a)) (l : List α)
    (s : State) : KeepsRecords s (l.foldl f s) := by
  induction l generalizing s with
  | nil => exact .refl s
  | cons a l ih => exact (h s a).trans (ih _)

section records

variable (s : State) (q : Request) (p : Packet)

theorem keepsRecords_raise (k : NoticeKind) (d : NoticeDetail) : KeepsRecords s (s.raise k d) :=
  ⟨rfl, rfl, rfl, fun h => noticeForm_raise h k d⟩

theorem keepsRecords_emit (v : NearPacket) : KeepsRecords s (s.emit v) := .of_same rfl rfl rfl rfl

theorem keepsRecords_reply (st : MgmtStatus) (f : ReplyFields) : KeepsRecords s (s.reply p st f) :=
  keepsRecords_emit s _

theorem keepsRecords_answer (st : RespStatus) : KeepsRecords s (s.answer q st) := keepsRecords_emit s _

theorem keepsRecords_takeHead (rest : List Packet) : KeepsRecords s (s.takeHead p rest) := .of_same rfl rfl rfl rfl

theorem keepsRecords_admitFromMode : KeepsRecords s (s.admitFromMode q) :=
  (within_admitFromMode s q).keepsRecords (admitFromMode_notices s q)

/-! Recalls and pins. -/

theorem keepsRecords_examineRecall : KeepsRecords s (s.examineRecall p) := by
  have refused (id st k d) : KeepsRecords s ((s.sendAck id st).raise k d) :=
    ((within_sendAck s id st).keepsRecords rfl).trans (keepsRecords_raise ..)
  unfold State.examineRecall State.checkRecall
  dsimp only
  split
  · exact keepsRecords_raise ..
  · split
    · exact keepsRecords_raise ..
    · split
      · exact refused ..
      · split
        · exact refused ..
        · split
          · exact refused ..
          · exact .of_same rfl rfl rfl rfl

theorem keepsRecords_examineRecalls : KeepsRecords s s.examineRecalls :=
  .trans (t := { s with recallCh := [] }) (.of_same rfl rfl rfl rfl) (.foldl keepsRecords_examineRecall ..)

theorem keepsRecords_takeRecall (k : RecallKind) : KeepsRecords s (s.takeRecall k) :=
  (within_takeRecall s k).keepsRecords (takeRecall_notices s k)

theorem keepsRecords_endPin (i : Fin 4) (o : Option RecallRecord) : KeepsRecords s (s.endPin i o) :=
  (within_endPin s i o).keepsRecords (endPin_notices s i o)

theorem keepsRecords_expirePin (i : Fin 4) : KeepsRecords s (s.expirePin i) := by
  unfold State.expirePin
  split
  · split
    · split
      · exact (keepsRecords_endPin ..).trans (keepsRecords_raise ..)
      · exact .refl s
    · exact .refl s
  · exact .refl s

/-! Far responses and expiries. -/

theorem keepsRecords_expireTxn (g : Tag) : KeepsRecords s (s.expireTxn g) := by
  unfold State.expireTxn
  split
  · split
    · exact (keepsRecords_raise s ..).trans ((((within_abandon ..).trans (within_putEntry ..)).trans
        (within_reportEnd ..)).keepsRecords (by simp))
    · exact .refl s
  · exact .refl s

end records

/-- What a response does to the entry that it fits leaves the watch unit as it is. -/
def AppliesBeside (f : State → Tag → Txn → List Byte → Option State) : Prop :=
  ∀ s g t payload u, f s g t payload = some u → KeepsRecords s u

/-- A response that records no occurrence. -/
theorem AppliesWithin.beside {f : State → Tag → Txn → List Byte → Option State} (hf : AppliesWithin f)
    (hn : ∀ s g t payload u, f s g t payload = some u → u.notices = s.notices) : AppliesBeside f :=
  fun s g t payload u h => (hf s g t payload u h).keepsRecords (hn s g t payload u h)

theorem applyGrantSData_beside : AppliesBeside applyGrantSData := by
  refine applyGrantSData_within.beside fun s g t payload u h => ?_
  unfold applyGrantSData at h
  split at h
  · split at h <;> cases h <;> simp
  · cases h

theorem applyGrantXData_beside : AppliesBeside applyGrantXData := by
  refine applyGrantXData_within.beside fun s g t payload u h => ?_
  unfold applyGrantXData at h
  split at h
  · split at h <;> cases h <;> simp
  · cases h

/-- A GRANT_X without a copy to grant raises FAR_PROTOCOL (R77). -/
theorem applyGrantX_beside : AppliesBeside applyGrantX := by
  intro s g t payload u h
  unfold applyGrantX at h
  split at h
  · split at h
    · cases h
      exact (keepsRecords_raise s ..).trans ((within_issue ..).keepsRecords (by simp))
    · split at h <;> cases h
      · exact ((within_install s ..).trans (within_walkAndFinish ..)).keepsRecords (by simp)
      · exact (within_walkAndFinish s ..).keepsRecords (by simp)
    · cases h
  · cases h

theorem applyWbDone_beside : AppliesBeside applyWbDone := by
  refine applyWbDone_within.beside fun s g t payload u h => ?_
  unfold applyWbDone at h
  split at h
  · split at h <;> cases h <;> simp
  · cases h

theorem applyUcData_beside : AppliesBeside applyUcData := by
  refine applyUcData_within.beside fun s g t payload u h => ?_
  unfold applyUcData at h
  split at h
  · split at h <;> cases h; simp
  · cases h

theorem applyUcDone_beside : AppliesBeside applyUcDone := by
  refine applyUcDone_within.beside fun s g t payload u h => ?_
  unfold applyUcDone at h
  split at h
  · split at h <;> cases h; simp
  · cases h

theorem applyAtomicResult_beside : AppliesBeside applyAtomicResult := by
  refine applyAtomicResult_within.beside fun s g t payload u h => ?_
  unfold applyAtomicResult at h
  split at h
  · split at h <;> cases h; simp
  · cases h

/-- A FAIL raises FAR_FAIL (R82). -/
theorem applyFail_beside : AppliesBeside applyFail := by
  intro s g t payload u h
  unfold applyFail at h
  split at h <;> cases h
  have freed : KeepsRecords s ((s.abandon t .farFail).releaseTag g) :=
    ((within_abandon ..).trans (within_releaseTag ..)).keepsRecords (by simp)
  exact (freed.trans (keepsRecords_raise ..)).trans ((within_reportEnd ..).keepsRecords (reportEnd_notices ..))

theorem applyNone_beside : AppliesBeside fun _ _ _ _ => none := by
  intro s g t payload u h
  cases h

/-- Conditions 1 to 3 of R67, and the response applied. -/
theorem keepsRecords_respond {f : State → Tag → Txn → List Byte → Option State} (hf : AppliesBeside f)
    (s : State) (p : Packet) : KeepsRecords s (s.respond p f) := by
  unfold State.respond
  split
  · exact keepsRecords_raise ..
  · split
    · exact keepsRecords_raise ..
    · exact (within_releaseTag ..).keepsRecords rfl
    · split
      · next h => exact hf _ _ _ _ _ h
      · exact keepsRecords_raise ..

theorem keepsRecords_takeResponse {f : State → Tag → Txn → List Byte → Option State} (hf : AppliesBeside f)
    (s : State) (wanted : Packet → Bool) : KeepsRecords s (s.takeResponse wanted f) := by
  unfold State.takeResponse
  split
  · next p rest _ =>
    split
    · exact .trans (t := { s with respCh := rest }) (.of_same rfl rfl rfl rfl) (keepsRecords_respond hf ..)
    · exact .refl s
  · exact .refl s

end Sys2Proof.Machine
end

section
/-! SUPPORT. What each command does to the watch unit: the watch check of a memory request, POP_CAPTURE and the writing
of a watch entry, and the laws of the capture queue and the notice set that follow (R128 to R134, R163). -/

namespace Sys2Proof.Machine

open Sys2Proof.Safety

/-! ### The watch check (R131, R133) -/

/-- At most one capture: a record of the next sequence number joins the tail of a queue with room (R133). -/
inductive CapturesOne (s t : State) : Prop
  | none (hc : t.captures = s.captures) (hq : t.nextSeq = s.nextSeq)
  | one (c : Capture) (hroom : s.captures.length < 16) (hm : c.matched ≠ []) (hs : c.sequence = s.nextSeq)
    (hc : t.captures = s.captures ++ [c]) (hq : t.nextSeq = s.nextSeq + 1)

/-- What the admission of a memory request may do to the watch unit: hit counts rise by at most one, at most one
request is captured, and the notice set keeps its form. -/
structure WatchChecks (s t : State) : Prop where
  watch : ∀ i : Fin 8, t.watch[i] = s.watch[i] ∨ t.watch[i] = { s.watch[i] with hits := s.watch[i].hits + 1 }
  captures : CapturesOne s t
  notices : NoticeForm s → NoticeForm t

theorem KeepsRecords.watchChecks {s t : State} (h : KeepsRecords s t) : WatchChecks s t :=
  ⟨fun i => .inl (by rw [h.watch]), .none h.captures h.nextSeq, h.notices⟩

/-- What follows a watch check leaves what it has done. -/
theorem WatchChecks.trans {s t u : State} (h : WatchChecks s t) (k : KeepsRecords t u) : WatchChecks s u := by
  refine ⟨fun i => by rw [k.watch]; exact h.watch i, ?_, k.notices ∘ h.notices⟩
  cases h.captures with
  | none hc hq => exact .none (k.captures.trans hc) (k.nextSeq.trans hq)
  | one c hroom hm hs hc hq => exact .one c hroom hm hs (k.captures.trans hc) (k.nextSeq.trans hq)

/-- What comes before a watch check leaves the watch unit to it. -/
theorem KeepsRecords.trans_checks {s t u : State} (h : KeepsRecords s t) (k : WatchChecks t u) : WatchChecks s u := by
  obtain ⟨hw, hc, hn⟩ := k
  rw [h.watch] at hw
  refine ⟨hw, ?_, hn ∘ h.notices⟩
  cases hc with
  | none hc hq => exact .none (hc.trans h.captures) (hq.trans h.nextSeq)
  | one c hroom hm hs hc hq =>
    rw [h.captures] at hroom hc
    rw [h.nextSeq] at hs hq
    exact .one c hroom hm hs hc hq

/-- A hit count rises by one, or stays at its end (R131). -/
theorem hit_cases (e : WatchEntry) : e.hit = e ∨ e.hit = { e with hits := e.hits + 1 } := by
  unfold WatchEntry.hit
  split
  · exact .inl rfl
  · exact .inr rfl

/-- A request that an entry of some action matches has a matching entry. -/
theorem matching_ne_nil {s : State} {q : Request} {a : WatchAction} (h : s.matchesWith q a = true) :
    s.matching q ≠ [] := by
  obtain ⟨i, hi, -⟩ := (matchesWith_iff s q a).1 h
  exact List.ne_nil_of_mem (List.mem_filter.2 ⟨List.mem_finRange i, hi⟩)

section check

variable (s : State) (q : Request) (p : Packet)

theorem watchChecks_countHits : WatchChecks s (s.countHits q) := by
  refine ⟨fun i => ?_, .none rfl rfl, id⟩
  rw [State.countHits_watch, mapTable_get]
  split
  · exact hit_cases _
  · exact .inl rfl

/-- The capture of a request, its hits counted (R131, R133). -/
theorem watchChecks_captureRequest {matched : List (Fin 8)} (hm : matched ≠ []) (slot : Option (Fin 4)) :
    WatchChecks s ((s.countHits q).captureRequest q matched slot) := by
  have hc := watchChecks_countHits s q
  unfold State.captureRequest
  split
  · next hroom => exact ⟨hc.watch, .one _ hroom hm rfl rfl rfl, hc.notices⟩
  · exact hc.trans (keepsRecords_raise ..)

/-- The request is placed in the slot and HOLD is raised (R135). -/
theorem keepsRecords_holdRequest (i : Fin 4) : KeepsRecords s (s.holdRequest q i) :=
  .trans (t := { s with holds := upd s.holds i (some q) }) (.of_same rfl rfl rfl rfl) (keepsRecords_raise ..)

/-- What the watch check hands on, or keeps, has counted, captured or held the request, or answered it. -/
theorem watchChecks_watchCheck {t : State} (h : s.watchCheck q = .pass t ∨ s.watchCheck q = .stopped t) :
    WatchChecks s t := by
  unfold State.watchCheck at h
  dsimp only at h
  split at h
  · next hh =>
    have captured (slot) := watchChecks_captureRequest s q (matching_ne_nil hh) slot
    split at h <;> simp only [reduceCtorEq, WatchOutcome.stopped.injEq, false_or] at h <;> subst h
    · exact (captured _).trans (keepsRecords_holdRequest ..)
    · exact (captured _).trans (keepsRecords_answer ..)
  · split at h <;> simp only [reduceCtorEq, WatchOutcome.pass.injEq, or_false] at h <;> subst h
    · next hc => exact watchChecks_captureRequest s q (matching_ne_nil hc) _
    · exact watchChecks_countHits s q

theorem watchChecks_admitRequest : WatchChecks s (s.admitRequest q) := by
  unfold State.admitRequest
  split
  · exact (keepsRecords_answer ..).watchChecks
  · split
    · next h => exact (watchChecks_watchCheck s q (.inl h)).trans (keepsRecords_admitFromMode ..)
    · next h => exact watchChecks_watchCheck s q (.inr h)

theorem watchChecks_admitPacket : WatchChecks s (s.admitPacket p) := by
  unfold State.admitPacket
  split
  · exact watchChecks_admitRequest ..
  · exact (keepsRecords_emit ..).watchChecks

theorem watchChecks_takeRequest (k : RequestKind) : WatchChecks s (s.takeRequest k) := by
  unfold State.takeRequest
  split
  · split
    · exact (keepsRecords_takeHead ..).trans_checks (watchChecks_admitPacket ..)
    · exact (KeepsRecords.refl s).watchChecks
  · exact (KeepsRecords.refl s).watchChecks

end check

/-! ### The bulk events, and the delivery of notices -/

section events

variable (s : State)

theorem keepsRecords_resetIngress : KeepsRecords s s.resetIngress := by
  have answered (t : State) (p : Packet) : KeepsRecords t (t.answerReset p) := by
    unfold State.answerReset
    split <;> exact keepsRecords_emit ..
  exact .trans (t := { s with ingress := [] }) (.of_same rfl rfl rfl rfl)
    (.foldl (fun t p => (keepsRecords_takeHead t p []).trans (answered ..)) ..)

theorem keepsRecords_trafficReset : KeepsRecords s s.trafficReset := by
  have holds (t : State) : KeepsRecords t t.resetHolds := by
    rw [resetHolds_eq]
    exact .of_same rfl rfl rfl rfl
  have waiters (t : State) (ws) : KeepsRecords t (t.answerAll ws .reset) := (within_answerAll ..).keepsRecords (by simp)
  have recalls (t : State) (rs) : KeepsRecords t (t.ackAll rs) := by
    rw [ackAll_eq]
    exact .of_same rfl rfl rfl rfl
  exact ((((keepsRecords_resetIngress s).trans (holds _)).trans (waiters ..)).trans (recalls ..)).trans
    (((within_blocks _ ..).trans (within_stopDrain ..)).keepsRecords (stopDrain_notices ..))

theorem keepsRecords_loseFarLink : KeepsRecords s s.loseFarLink := by
  rw [loseFarLink_eq]
  exact ⟨rfl, rfl, rfl, noticeForm_recordOccurrence⟩

theorem keepsRecords_loseNearLink : KeepsRecords s s.loseNearLink := by
  have pins (t : State) : KeepsRecords t t.clearPins := by
    refine .foldl (fun s i => ?_) _ t
    split
    · exact keepsRecords_endPin s ..
    · exact .refl s
  rw [loseNearLink_eq]
  exact .trans (t := s.nearLost) (.of_same rfl rfl rfl rfl) (.trans (pins _) (.of_same rfl rfl rfl rfl))

/-- The oldest notice leaves the set (R18). -/
theorem keepsRecords_takeNotice : KeepsRecords s s.takeNotice := by
  unfold State.takeNotice
  split
  · next hn => exact ⟨rfl, rfl, rfl, fun h => noticeForm_of_tail h hn⟩
  · exact .refl s

theorem keepsRecords_endInterval : KeepsRecords s s.endInterval := by
  unfold State.endInterval
  split
  · split
    · exact .trans (t := { s with noticeInterval := none }) (.of_same rfl rfl rfl rfl) (keepsRecords_takeNotice _)
    · exact .refl s
  · exact .refl s

/-- The end of a microsecond (R183). -/
theorem keepsRecords_tick : KeepsRecords s s.tick := by
  have entries := KeepsRecords.foldl keepsRecords_expireTxn (List.finRange 32) s
  have records := KeepsRecords.foldl keepsRecords_expirePin (List.finRange 4)
    ((List.finRange 32).foldl State.expireTxn s)
  have due : KeepsRecords s s.expireDue := (entries.trans records).trans (keepsRecords_endInterval _)
  unfold State.tick
  generalize s.expireDue = t at due ⊢
  exact due.trans (.of_same rfl rfl rfl rfl)

end events

/-! ### What a command does to the watch unit -/

/-- The ways in which a command can leave the watch unit. -/
inductive WatchStep : Instr → State → State → Prop
  /-- The watch unit stands. -/
  | kept {c : Instr} {s t : State} (h : KeepsRecords s t) : WatchStep c s t
  /-- A memory request is admitted (R131, R133). -/
  | checked {k : RequestKind} {s t : State} (h : WatchChecks s t) : WatchStep (requestStep k) s t
  /-- The oldest capture record is taken (R134). -/
  | popped {s t : State} {v : Capture} {rest : List Capture} (hc : s.captures = v :: rest)
    (h : KeepsRecords { s with captures := rest } t) : WatchStep .popCapture s t
  /-- A watch entry is replaced (R130). -/
  | written {s t : State} {i : Fin 8} {e : WatchEntry} (h : KeepsRecords { s with watch := upd s.watch i e } t) :
    WatchStep .writeEntryWatch s t
  /-- The part is reset (R176). -/
  | reset {s t : State} (h : KeepsRecords State.reset t) : WatchStep .coldReset s t

/-- Taking a packet out of the ingress queue leaves the watch unit as it is. -/
theorem WatchStep.of_takeHead {c : Instr} {s t : State} {p : Packet} {rest : List Packet}
    (h : WatchStep c (s.takeHead p rest) t) : WatchStep c s t := by
  cases h with
  | kept h => exact .kept ((keepsRecords_takeHead s p rest).trans h)
  | checked h => exact .checked ((keepsRecords_takeHead s p rest).trans_checks h)
  | popped hc h => exact .popped hc ⟨h.watch, h.captures, h.nextSeq, h.notices⟩
  | written h => exact .written ⟨h.watch, h.captures, h.nextSeq, h.notices⟩
  | reset h => exact .reset h

section commands

variable (s : State) (p : Packet)

theorem watchStep_takeCommand {c : Instr} (wanted : Packet → Bool) {run : State → Packet → State}
    (hr : ∀ s p, WatchStep c s (run s p)) : WatchStep c s (s.takeCommand wanted run) := by
  unfold State.takeCommand
  split
  · next q rest _ =>
    split
    · refine .of_takeHead (p := q) (rest := rest) ?_
      unfold State.command
      split
      · exact .kept (keepsRecords_reply ..)
      · split
        · exact .kept (keepsRecords_reply ..)
        · exact hr ..
    · exact .kept (.refl s)
  · exact .kept (.refl s)

theorem watchStep_runPopCapture : WatchStep .popCapture s (runPopCapture s p) := by
  unfold runPopCapture
  split
  · next hc => exact .popped hc (keepsRecords_reply ..)
  · exact .kept (keepsRecords_reply ..)

theorem watchStep_runWriteWatch : WatchStep .writeEntryWatch s (runWriteWatch s p) := by
  unfold runWriteWatch
  split
  · split
    · exact .written (keepsRecords_reply ..)
    · exact .kept (keepsRecords_reply ..)
  · exact .kept (keepsRecords_reply ..)

/-- The commands that read or write an entry, WRITE_ENTRY of table WATCH apart (R154, R155). -/
theorem keepsRecords_runEntry {run : State → Packet → State}
    (h : run ∈ [runReadWindow, runReadWatch, runReadConfig, runWriteWindow, runWriteConfig]) :
    KeepsRecords s (run s p) := by
  simp only [List.mem_cons, List.not_mem_nil, or_false] at h
  obtain rfl | rfl | rfl | rfl | rfl := h
  · unfold runReadWindow; (repeat' split) <;> exact keepsRecords_reply ..
  · unfold runReadWatch; (repeat' split) <;> exact keepsRecords_reply ..
  · unfold runReadConfig; split <;> exact keepsRecords_reply ..
  · unfold runWriteWindow; (repeat' split) <;> exact .of_same rfl rfl rfl rfl
  · unfold runWriteConfig; (repeat' split) <;> exact .of_same rfl rfl rfl rfl

theorem keepsRecords_runDrain : KeepsRecords s (runDrain s p) := by
  unfold runDrain
  repeat' split
  all_goals exact .of_same rfl rfl rfl rfl

theorem keepsRecords_runDrainAbort : KeepsRecords s (runDrainAbort s p) := by
  unfold runDrainAbort
  split
  · exact keepsRecords_reply ..
  · exact (((within_blocks s ..).trans (within_endScan _)).keepsRecords (by simp)).trans (keepsRecords_reply ..)
  · exact .of_same rfl rfl rfl rfl

/-- The released request meets the mode check, not the watch check (R14, R137). -/
theorem keepsRecords_runReleaseHold : KeepsRecords s (runReleaseHold s p) := by
  unfold runReleaseHold
  split
  · next i _ =>
    split
    · exact .trans (t := { s with holds := upd s.holds i none }) (.of_same rfl rfl rfl rfl)
        ((keepsRecords_admitFromMode ..).trans (keepsRecords_reply ..))
    · exact keepsRecords_reply ..
  · exact keepsRecords_reply ..

theorem keepsRecords_runDiscardHold : KeepsRecords s (runDiscardHold s p) := by
  unfold runDiscardHold
  repeat' split
  all_goals exact .of_same rfl rfl rfl rfl

theorem keepsRecords_runBreakPin : KeepsRecords s (runBreakPin s p) := by
  unfold runBreakPin
  split
  · split
    · split
      · exact (keepsRecords_endPin ..).trans (keepsRecords_reply ..)
      · exact keepsRecords_reply ..
    · exact keepsRecords_reply ..
  · exact keepsRecords_reply ..

theorem keepsRecords_runReattach : KeepsRecords s (runReattach s p) := by
  unfold runReattach
  split <;> exact .of_same rfl rfl rfl rfl

/-- What each command does to the watch unit. -/
theorem exec_watchStep {c : Instr} {t : State} (h : exec c s = .next t) : WatchStep c s t := by
  have response {f} (hf : AppliesBeside f) (wanted) : WatchStep c s (s.takeResponse wanted f) :=
    .kept (keepsRecords_takeResponse hf s wanted)
  have command {run : State → Packet → State} (hr : ∀ s p, KeepsRecords s (run s p)) (wanted) :
      WatchStep c s (s.takeCommand wanted run) := watchStep_takeCommand s wanted fun s p => .kept (hr s p)
  cases c with
  | packetArrival p =>
    cases h
    split <;> exact .kept (.of_same rfl rfl rfl rfl)
  | read => cases h; exact .checked (k := .read) (watchChecks_takeRequest ..)
  | write => cases h; exact .checked (k := .write) (watchChecks_takeRequest ..)
  | lockRead => cases h; exact .checked (k := .lockRead) (watchChecks_takeRequest ..)
  | unlockWrite => cases h; exact .checked (k := .unlockWrite) (watchChecks_takeRequest ..)
  | atomic => cases h; exact .checked (k := .atomic) (watchChecks_takeRequest ..)
  | unknownKindRequest =>
    simp only [exec, execUnknownKindRequest] at h
    split at h
    · split at h <;> cases h <;> exact .kept (.of_same rfl rfl rfl rfl)
    · cases h; exact .kept (.refl s)
  | responseArrival p =>
    cases h
    split <;> exact .kept (.of_same rfl rfl rfl rfl)
  | grantSData => cases h; exact response applyGrantSData_beside _
  | grantXData => cases h; exact response applyGrantXData_beside _
  | grantX => cases h; exact response applyGrantX_beside _
  | wbDone => cases h; exact response applyWbDone_beside _
  | ucData => cases h; exact response applyUcData_beside _
  | ucDone => cases h; exact response applyUcDone_beside _
  | atomicResult => cases h; exact response applyAtomicResult_beside _
  | fail => cases h; exact response applyFail_beside _
  | unknownResponse => cases h; exact response applyNone_beside _
  | shortResponse =>
    simp only [exec, execShortResponse] at h
    split at h
    · next rest _ =>
      split at h <;> cases h
      · exact .kept (.trans (t := { s with respCh := rest }) (.of_same rfl rfl rfl rfl) (keepsRecords_raise ..))
      · exact .kept (.refl s)
    · cases h; exact .kept (.refl s)
  | transactionExpiry g => cases h; exact .kept (keepsRecords_expireTxn s g)
  | recallArrival p =>
    cases h
    split
    · exact .kept (.trans (t := { s with recallCh := s.recallCh ++ [p] }) (.of_same rfl rfl rfl rfl)
        (keepsRecords_examineRecalls _))
    · exact .kept (.refl s)
  | downgrade => cases h; exact .kept (keepsRecords_takeRecall s _)
  | surrender => cases h; exact .kept (keepsRecords_takeRecall s _)
  | pinExpiry i => cases h; exact .kept (keepsRecords_expirePin s i)
  | drainVisit => cases h; exact .kept ((within_visit s).keepsRecords (visit_notices s))
  | readEntryWindow => cases h; exact command (fun s p => keepsRecords_runEntry s p (by simp)) _
  | readEntryWatch => cases h; exact command (fun s p => keepsRecords_runEntry s p (by simp)) _
  | readEntryConfig => cases h; exact command (fun s p => keepsRecords_runEntry s p (by simp)) _
  | writeEntryWindow => cases h; exact command (fun s p => keepsRecords_runEntry s p (by simp)) _
  | writeEntryWatch => cases h; exact watchStep_takeCommand s _ watchStep_runWriteWatch
  | writeEntryConfig => cases h; exact command (fun s p => keepsRecords_runEntry s p (by simp)) _
  | readStatus => cases h; exact command (fun s p => keepsRecords_reply s p ..) _
  | probeLine => cases h; exact command (fun s p => keepsRecords_reply s p ..) _
  | listPins => cases h; exact command (fun s p => keepsRecords_reply s p ..) _
  | drain => cases h; exact command keepsRecords_runDrain _
  | drainAbort => cases h; exact command keepsRecords_runDrainAbort _
  | popCapture => cases h; exact watchStep_takeCommand s _ watchStep_runPopCapture
  | releaseHold => cases h; exact command keepsRecords_runReleaseHold _
  | discardHold => cases h; exact command keepsRecords_runDiscardHold _
  | breakPin => cases h; exact command keepsRecords_runBreakPin _
  | trafficReset =>
    cases h
    exact command (fun s p => (keepsRecords_trafficReset s).trans (keepsRecords_reply _ p ..)) _
  | reattach => cases h; exact command keepsRecords_runReattach _
  | noticeTake => cases h; exact .kept (keepsRecords_takeNotice s)
  | noticeIntervalEnd => cases h; exact .kept (keepsRecords_endInterval s)
  | egressDeparture =>
    simp only [exec, execEgressDeparture] at h
    split at h <;> cases h <;> exact .kept (.of_same rfl rfl rfl rfl)
  | farPacketDeparture channel =>
    simp only [exec, execFarPacketDeparture] at h
    split at h
    · split at h <;> cases h <;> exact .kept (.of_same rfl rfl rfl rfl)
    · split at h <;> cases h <;> exact .kept (.of_same rfl rfl rfl rfl)
    · cases h; exact .kept (.refl s)
  | nearLinkDown =>
    simp only [exec, execNearLinkDown] at h
    split at h <;> cases h
    · exact .kept (keepsRecords_loseNearLink s)
    · exact .kept (.refl s)
  | nearLinkUp =>
    simp only [exec, execNearLinkUp] at h
    split at h <;> cases h <;> exact .kept (.of_same rfl rfl rfl rfl)
  | farLinkDown =>
    simp only [exec, execFarLinkDown] at h
    split at h <;> cases h
    · exact .kept (keepsRecords_loseFarLink s)
    · exact .kept (.refl s)
  | farLinkUp => cases h; exact .kept (.of_same rfl rfl rfl rfl)
  | coldReset => cases h; exact .reset (.of_same rfl rfl rfl rfl)
  | unknownCommand =>
    simp only [exec, execUnknownCommand] at h
    split at h
    · split at h <;> cases h <;> exact .kept (.of_same rfl rfl rfl rfl)
    · cases h; exact .kept (.refl s)

end commands

/-! ### The law of the capture queue (R132) -/

/-- The sequence numbers of `n` records queued before the number `next`. -/
def queuedSequences (next : BitVec 16) (n : Nat) : List (BitVec 16) :=
  (List.range n).map fun i => next - BitVec.ofNat 16 (n - i)

theorem captureForm_iff {s : State} : CaptureForm s ↔
    s.captures.length ≤ 16 ∧ (∀ c ∈ s.captures, c.matched ≠ []) ∧
      s.captures.map Capture.sequence = queuedSequences s.nextSeq s.captures.length := Iff.rfl

/-- A record more takes the next number, and those ahead of it keep theirs. -/
theorem queuedSequences_tail (next : BitVec 16) (n : Nat) :
    queuedSequences (next + 1) (n + 1) = queuedSequences next n ++ [next] := by
  have last : next + 1 - BitVec.ofNat 16 (n + 1 - n) = next := by
    rw [Nat.add_sub_cancel_left]
    bv_omega
  simp only [queuedSequences, List.range_succ, List.map_append, List.map_singleton, last]
  refine congrArg (· ++ [next]) (List.map_congr_left fun i hi => ?_)
  have hi : i < n := List.mem_range.1 hi
  rw [Nat.sub_add_comm hi.le, BitVec.ofNat_add]
  bv_omega

/-- Without the oldest record, the others keep their numbers. -/
theorem queuedSequences_head (next : BitVec 16) (n : Nat) :
    queuedSequences next (n + 1) = (next - BitVec.ofNat 16 (n + 1)) :: queuedSequences next n := by
  simp only [queuedSequences, List.range_succ_eq_map, List.map_cons, List.map_map]
  refine congrArg₂ List.cons rfl (List.map_congr_left fun i _ => ?_)
  simp

/-- A captured record keeps the queue's form (R133). -/
theorem captureForm_capturesOne {s t : State} (hs : CaptureForm s) (h : CapturesOne s t) : CaptureForm t := by
  cases h with
  | none hc hq =>
    rw [captureForm_iff, hc, hq]
    exact hs
  | one c hroom hm hseq hc hq =>
    obtain ⟨-, hall, hlist⟩ := captureForm_iff.1 hs
    rw [captureForm_iff, hc, hq, List.length_append, List.length_singleton, queuedSequences_tail, List.map_append,
      hlist]
    exact ⟨hroom, by simpa [or_imp, forall_and] using ⟨hall, hm⟩, by simp [hseq]⟩

/-- A record taken from the head keeps the queue's form (R134). -/
theorem captureForm_popped {s : State} {v : Capture} {rest : List Capture} (hs : CaptureForm s)
    (hc : s.captures = v :: rest) : CaptureForm { s with captures := rest } := by
  obtain ⟨hlen, hall, hlist⟩ := captureForm_iff.1 hs
  rw [hc] at hlen hall hlist
  rw [List.length_cons] at hlen hlist
  rw [queuedSequences_head, List.map_cons] at hlist
  exact ⟨by dsimp only; omega, fun c h => hall c (List.mem_cons_of_mem v h), (List.cons.inj hlist).2⟩

theorem captureForm_reset : CaptureForm State.reset := by simp [captureForm_iff, State.reset, queuedSequences]

theorem noticeForm_reset : NoticeForm State.reset := by simp [NoticeForm, State.reset]

theorem forms_keepsRecords {s t : State} (hs : CaptureForm s ∧ NoticeForm s) (h : KeepsRecords s t) :
    CaptureForm t ∧ NoticeForm t :=
  ⟨captureForm_capturesOne hs.1 (.none h.captures h.nextSeq), h.notices hs.2⟩

/-- Every command keeps the form of the capture queue and the notice set. -/
theorem forms_watchStep {c : Instr} {s t : State} (hs : CaptureForm s ∧ NoticeForm s) (h : WatchStep c s t) :
    CaptureForm t ∧ NoticeForm t := by
  obtain ⟨hc, hn⟩ := hs
  cases h with
  | kept h => exact forms_keepsRecords ⟨hc, hn⟩ h
  | checked h => exact ⟨captureForm_capturesOne hc h.captures, h.notices hn⟩
  | popped hp h => exact forms_keepsRecords ⟨captureForm_popped hc hp, hn⟩ h
  | @written _ _ i e h => exact forms_keepsRecords (s := { s with watch := upd s.watch i e }) ⟨hc, hn⟩ h
  | reset h => exact forms_keepsRecords ⟨captureForm_reset, noticeForm_reset⟩ h

/-- Settles O8: a command at the front by `exec_watchStep`, the empty queue by `keepsRecords_tick`; the recording law by
its three cases. -/
theorem stepsKeepCapturesAndNotices : Obligations.StepsKeepCapturesAndNotices := by
  refine ⟨fun s t hs h => ?_, fun enabled kind detail set => ⟨?_, ?_, ?_⟩, rfl⟩
  · unfold step at h
    split at h
    · next c rest _ => exact forms_watchStep (s := { s with pending := rest }) hs (exec_watchStep _ h)
    · rw [Host.Outcome.next.injEq] at h
      subst h
      exact forms_keepsRecords hs (keepsRecords_tick s)
  · exact recordOccurrence_disabled
  · exact recordOccurrence_new
  · rintro before n after he rfl hk ho hc
    rw [recordOccurrence_again he hk ho, again_eq hc]

/-! ### What only watch checks and the watch unit's commands change (R128 to R134) -/

/-- Settles O16: the ways in which a command can leave the watch unit (`exec_watchStep`) are gone through. -/
theorem watchStateChangesOnlyAtWatchChecks : Obligations.WatchStateChangesOnlyAtWatchChecks := by
  intro c s t h hc
  have entriesStand (hw : t.watch = s.watch) (i : Fin 8) :
      (t.watch[i] = s.watch[i] ∨ t.watch[i] = { s.watch[i] with hits := s.watch[i].hits + 1 }) ∧
        ((∀ k, c ≠ requestStep k) → t.watch[i] = s.watch[i]) := by simp [hw]
  cases exec_watchStep s h with
  | kept h => exact ⟨fun _ => entriesStand h.watch, fun _ _ => h.captures, fun _ => h.nextSeq⟩
  | @checked k _ _ h =>
    have notRequest (hk : ∀ j, requestStep k ≠ requestStep j) : False := hk k rfl
    exact ⟨fun _ i => ⟨h.watch i, fun hk => (notRequest hk).elim⟩, fun hk => (notRequest hk).elim,
      fun hk => (notRequest hk).elim⟩
  | popped hp h => exact ⟨fun _ => entriesStand h.watch, fun _ hp => absurd rfl hp, fun _ => h.nextSeq⟩
  | written h => exact ⟨fun hw => absurd rfl hw, fun _ _ => h.captures, fun _ => h.nextSeq⟩
  | reset h => exact absurd rfl hc

end Sys2Proof.Machine
end

section
/-! SUPPORT. The account of the drain record: which entries it counts, and the work of the part that leaves them and the
record as they are (R140, R145). -/

namespace Sys2Proof.Machine

open Sys2Proof.Safety

/-! ### Counting the entries of a table -/

theorem tally_congr {α : Type} {n : Nat} {u v : Vector α n} {p : α → Bool} (h : ∀ i : Fin n, p u[i] = p v[i]) :
    tally u p = tally v p := by
  have hm : u.toList.map p = v.toList.map p :=
    List.ext_getElem (by simp) fun i hi _ => by simpa using h ⟨i, by simpa using hi⟩
  simpa only [tally, List.countP_map, Function.id_comp] using congrArg (List.countP id) hm

theorem tally_eq_zero {α : Type} {n : Nat} {v : Vector α n} {p : α → Bool} :
    tally v p = 0 ↔ ∀ i : Fin n, p v[i] = false := by
  simp [tally, Fin.forall_iff, Vector.forall_mem_iff_forall_getElem]

/-- An entry that begins to count. -/
theorem tally_upd_entered {α : Type} {n : Nat} {v : Vector α n} {p : α → Bool} {i : Fin n} {x : α}
    (hv : p v[i] = false) (hx : p x = true) : tally (upd v i x) p = tally v p + 1 := by
  have hv' : p v[i.val] = false := hv
  simp [tally, upd, Vector.countP_set, hv', hx]

/-- An entry that ceases to count. -/
theorem tally_upd_left {α : Type} {n : Nat} {v : Vector α n} {p : α → Bool} {i : Fin n} {x : α}
    (hv : p v[i] = true) (hx : p x = false) : tally (upd v i x) p = tally v p - 1 := by
  have hv' : p v[i.val] = true := hv
  simp [tally, upd, Vector.countP_set, hv', hx]

/-! ### The account of an entry, and the drain record -/

/-- The drain sees no difference between the entries. -/
def SameAccount (e f : TxnEntry) : Prop := ofDrain f = ofDrain e ∧ strayDrain f = strayDrain e

/-- A drain record stands, or waits no more (R145). -/
def DrainStands (d e : Drain) : Prop := e = d ∨ e = { d with waiting := false }

theorem SameAccount.refl (e : TxnEntry) : SameAccount e e := ⟨rfl, rfl⟩

theorem SameAccount.trans {e f g : TxnEntry} (h : SameAccount e f) (k : SameAccount f g) : SameAccount e g :=
  ⟨k.1.trans h.1, k.2.trans h.2⟩

/-- Only an entry of origin DRAIN is astray. -/
theorem strayDrain_of_not_ofDrain {e : TxnEntry} (h : ofDrain e = false) : strayDrain e = false := by
  cases e with
  | issued t => simp only [ofDrain] at h; simp [strayDrain, h]
  | _ => rfl

/-- Two entries that the drain does not count. -/
theorem sameAccount_of_not_ofDrain {e f : TxnEntry} (he : ofDrain e = false) (hf : ofDrain f = false) :
    SameAccount e f :=
  ⟨hf.trans he.symm, (strayDrain_of_not_ofDrain hf).trans (strayDrain_of_not_ofDrain he).symm⟩

/-- The origin and the kind of an ISSUED entry are all that the drain sees of it. -/
theorem sameAccount_issued {t u : Txn} (ho : u.origin = t.origin)
    (hk : u.kind.isWriteback = t.kind.isWriteback) : SameAccount (.issued t) (.issued u) := by
  simp [SameAccount, ofDrain, strayDrain, ho, hk]

theorem ofDrain_request {t : Txn} (h : t.origin = .request) : ofDrain (.issued t) = false := by
  simp [ofDrain, h]

theorem DrainStands.trans {c d e : Drain} (h : DrainStands c d) (k : DrainStands d e) : DrainStands c e := by
  obtain rfl | rfl := h
  · exact k
  · obtain rfl | rfl := k <;> exact .inr rfl

/-! ### The law in each state of the engine (R140) -/

/-- The part of the law that holds in every state of the engine. -/
def Accounted (s : State) : Prop :=
  s.drain.outstanding = tally s.txns ofDrain ∧ ∀ g : Tag, strayDrain s.txns[g] = false

theorem drainForm_idle {s : State} (h : s.drain.st = .idle) : DrainForm s ↔ Accounted s ∧
    s.drain.outstanding = 0 ∧ s.drain.pendingReply = none ∧ s.drain.waiting = false ∧ s.drain.aborted = false := by
  simp only [DrainForm, Accounted, h, and_assoc]

theorem drainForm_scanning {s : State} (h : s.drain.st = .scanning) : DrainForm s ↔ Accounted s ∧
    s.drain.cursorSet < 1024 ∧ s.drain.aborted = false := by
  simp only [DrainForm, Accounted, h, and_assoc]

theorem drainForm_finishing {s : State} (h : s.drain.st = .finishing) : DrainForm s ↔ Accounted s ∧
    0 < s.drain.outstanding ∧ s.drain.waiting = false := by
  simp only [DrainForm, Accounted, h, and_assoc]

theorem accounted_of_drainForm {s : State} (h : DrainForm s) : Accounted s := ⟨h.1, h.2.1⟩

/-- R146: an ISSUED entry that is no WRITEBACK is of origin REQUEST. -/
theorem origin_of_not_writeback {s : State} {g : Tag} {t : Txn} (hs : DrainForm s) (ht : s.txns[g] = .issued t)
    (hk : t.kind.isWriteback = false) : t.origin = .request := by
  have hg := (accounted_of_drainForm hs).2 g
  rw [ht] at hg
  cases ho : t.origin with
  | request => rfl
  | drain => simp [strayDrain, ho, hk] at hg

/-! ### Work that leaves the account as it is -/

/-- The drain sees no difference between the entries, and its record stands but that it may wait no more. -/
structure KeepsAccount (s t : State) : Prop where
  entries : ∀ g : Tag, SameAccount s.txns[g] t.txns[g]
  drain : DrainStands s.drain t.drain

theorem KeepsAccount.of_same {s t : State} (ht : t.txns = s.txns) (hd : t.drain = s.drain) : KeepsAccount s t :=
  ⟨fun _ => ht ▸ .refl _, .inl hd⟩

theorem KeepsAccount.refl (s : State) : KeepsAccount s s := .of_same rfl rfl

theorem KeepsAccount.trans {s t u : State} (h : KeepsAccount s t) (k : KeepsAccount t u) : KeepsAccount s u :=
  ⟨fun g => (h.entries g).trans (k.entries g), h.drain.trans k.drain⟩

/-- A step at a time over a list. -/
theorem KeepsAccount.foldl {α : Type} {f : State → α → State} (h : ∀ s a, KeepsAccount s (f s a)) (l : List α)
    (s : State) : KeepsAccount s (l.foldl f s) := by
  induction l generalizing s with
  | nil => exact .refl s
  | cons a l ih => exact (h s a).trans (ih _)

/-- One entry is replaced by one that is the same to the drain. -/
theorem KeepsAccount.of_entry {s t : State} {g : Tag} {e : TxnEntry} (ht : t.txns = upd s.txns g e)
    (he : SameAccount s.txns[g] e) (hd : DrainStands s.drain t.drain) : KeepsAccount s t := by
  refine ⟨fun h => ?_, hd⟩
  rw [ht, upd_get]
  split
  · next hgh => exact hgh ▸ he
  · exact .refl _

/-- An entry that the drain does not count stays one. -/
theorem KeepsAccount.not_ofDrain {s t : State} (h : KeepsAccount s t) {g : Tag} (hg : ofDrain s.txns[g] = false) :
    ofDrain t.txns[g] = false := (h.entries g).1.trans hg

/-- Work that keeps the account keeps the law. -/
theorem drainForm_of_keepsAccount {s t : State} (hs : DrainForm s) (h : KeepsAccount s t) : DrainForm t := by
  have hst : t.drain.st = s.drain.st ∧ t.drain.outstanding = s.drain.outstanding ∧
      t.drain.cursorSet = s.drain.cursorSet ∧ t.drain.aborted = s.drain.aborted ∧
      t.drain.pendingReply = s.drain.pendingReply ∧ (s.drain.waiting = false → t.drain.waiting = false) := by
    obtain hd | hd := h.drain <;> rw [hd] <;> simp
  obtain ⟨hst, ho, hc, ha, hp, hw⟩ := hst
  have account : Accounted t := by
    obtain ⟨hn, hg⟩ := accounted_of_drainForm hs
    exact ⟨by rw [ho, hn]; exact (tally_congr fun g => (h.entries g).1).symm,
      fun g => (h.entries g).2.trans (hg g)⟩
  cases hd : s.drain.st with
  | idle =>
    obtain ⟨-, h0, hr, hwait, hab⟩ := (drainForm_idle hd).1 hs
    exact (drainForm_idle (hst.trans hd)).2 ⟨account, ho.trans h0, hp.trans hr, hw hwait, ha.trans hab⟩
  | scanning =>
    obtain ⟨-, hcur, hab⟩ := (drainForm_scanning hd).1 hs
    exact (drainForm_scanning (hst.trans hd)).2 ⟨account, hc ▸ hcur, ha.trans hab⟩
  | finishing =>
    obtain ⟨-, hpos, hwait⟩ := (drainForm_finishing hd).1 hs
    exact (drainForm_finishing (hst.trans hd)).2 ⟨account, ho ▸ hpos, hw hwait⟩

end Sys2Proof.Machine
end

section
/-! SUPPORT. The work of the requests, the recalls and the pins, none of which concerns the drain (R140). -/

namespace Sys2Proof.Machine

open Sys2Proof.Safety

/-! ### The table's own updates -/

section entries

variable {s : State} {g : Tag}

/-- A FREE entry is none that the drain counts. -/
theorem not_ofDrain_of_freeTag (h : s.freeTag = some g) : ofDrain s.txns[g] = false := by
  obtain ⟨hf, -⟩ := lowest_eq_some.1 h
  cases he : s.txns[g] with
  | free => rfl
  | _ => rw [he] at hf; cases hf

theorem keepsAccount_releaseTag (h : ofDrain s.txns[g] = false) : KeepsAccount s (s.releaseTag g) :=
  .of_entry rfl (sameAccount_of_not_ofDrain h rfl) (.inr rfl)

/-- A far request of origin REQUEST under a tag that the drain does not count. -/
theorem keepsAccount_issue (h : ofDrain s.txns[g] = false) (k : TxnKind) (ws : List Waiter)
    (n : Option RecallRecord) (r : FarRequest) : KeepsAccount s (s.issue g k ws n .request r) :=
  .of_entry rfl (sameAccount_of_not_ofDrain h rfl) (.inl rfl)

/-- A victim or a stale copy goes home. -/
theorem keepsAccount_evict (h : s.freeTag = some g) (l : Loc) (x : Addr) (data : LineData) (i : Fin 4)
    (why : EvictionOrigin) : KeepsAccount s (s.evict l x data i g why .request) :=
  .of_entry rfl (sameAccount_of_not_ofDrain (not_ofDrain_of_freeTag h) rfl) (.inl rfl)

end entries

section work

variable (s : State) (w : Waiter) (l : Loc) (x : Addr) (data : LineData) (r : RecallRecord) (q : Request) (p : Packet)

theorem keepsAccount_emit (v : NearPacket) : KeepsAccount s (s.emit v) := .of_same rfl rfl

theorem keepsAccount_answer (st : RespStatus) : KeepsAccount s (s.answer q st) := .of_same rfl rfl

theorem keepsAccount_reply (st : MgmtStatus) (f : ReplyFields) : KeepsAccount s (s.reply p st f) := .of_same rfl rfl

theorem keepsAccount_raise (k : NoticeKind) (d : NoticeDetail) : KeepsAccount s (s.raise k d) := .of_same rfl rfl

theorem keepsAccount_takeHead (rest : List Packet) : KeepsAccount s (s.takeHead p rest) := .of_same rfl rfl

theorem keepsAccount_refuse : KeepsAccount s (s.refuse w) := by
  rw [refuse_eq]
  exact .of_same rfl rfl

theorem keepsAccount_recordWay : KeepsAccount s (s.recordWay w l) := by
  unfold State.recordWay
  (repeat' split) <;> exact .of_same rfl rfl

/-! ### Recalls -/

/-- The entry that names a way is filled anew with the same origin and kind. -/
theorem keepsAccount_putEntry_fetchOf {s : State} {l : Loc} {g : Tag} {t u : Txn} (h : s.fetchOf l = some (g, t))
    (ho : u.origin = t.origin) (hk : u.kind.isWriteback = t.kind.isWriteback) :
    KeepsAccount s (s.putEntry g (.issued u)) := by
  obtain ⟨hg, -⟩ := fetchOf_eq_some.1 h
  exact .of_entry rfl (hg ▸ sameAccount_issued ho hk) (.inl rfl)

theorem keepsAccount_noteRecall : KeepsAccount s (s.noteRecall l r) := by
  unfold State.noteRecall
  split
  · next h => exact keepsAccount_putEntry_fetchOf h rfl rfl
  · exact .refl s

theorem keepsAccount_markCopyLost : KeepsAccount s (s.markCopyLost l) := by
  unfold State.markCopyLost
  split
  · next h =>
    split
    · next hk => exact keepsAccount_putEntry_fetchOf h rfl (by rw [hk]; rfl)
    · exact .refl s
  · exact .refl s

theorem keepsAccount_deferRecall (i : Fin 4) : KeepsAccount s (s.deferRecall i r) := by
  unfold State.deferRecall
  (repeat' split) <;> exact .of_same rfl rfl

theorem keepsAccount_recallCopy (st : CopyState) : KeepsAccount s (s.recallCopy l r st x data) := by
  cases st with
  | upgrade =>
    simp only [State.recallCopy]
    split
    · exact .of_same rfl rfl
    · exact .trans (t := s.putWay l (.fill x)) (.of_same rfl rfl)
        ((keepsAccount_markCopyLost ..).trans (.of_same rfl rfl))
  | _ => exact .of_same rfl rfl

theorem keepsAccount_applyRecall : KeepsAccount s (s.applyRecall r) := by
  unfold State.applyRecall
  split
  · split
    · exact keepsAccount_deferRecall ..
    · split
      · exact .refl s
      · exact keepsAccount_noteRecall ..
      · exact keepsAccount_recallCopy ..
  · split <;> exact .of_same rfl rfl

theorem keepsAccount_applyHeldRecall (o : Option RecallRecord) : KeepsAccount s (s.applyHeldRecall o) := by
  cases o with
  | none => exact .refl s
  | some r => exact keepsAccount_applyRecall s r

theorem keepsAccount_takeRecall (k : RecallKind) : KeepsAccount s (s.takeRecall k) := by
  unfold State.takeRecall
  split
  · next rest _ =>
    split
    · dsimp only
      split
      · exact .of_same rfl rfl
      · exact .trans (t := { s with recallQueue := rest }) (.of_same rfl rfl) (keepsAccount_applyRecall ..)
    · exact .refl s
  · exact .refl s

theorem keepsAccount_examineRecalls : KeepsAccount s s.examineRecalls := by
  have examined (t : State) (p : Packet) : KeepsAccount t (t.examineRecall p) := by
    unfold State.examineRecall State.checkRecall
    dsimp only
    (repeat' split) <;> exact .of_same rfl rfl
  exact .trans (t := { s with recallCh := [] }) (.of_same rfl rfl) (.foldl examined ..)

/-! ### Pins -/

theorem keepsAccount_endPin (i : Fin 4) (o : Option RecallRecord) : KeepsAccount s (s.endPin i o) :=
  .trans (t := s.putPin i none) (.of_same rfl rfl) (keepsAccount_applyHeldRecall ..)

theorem keepsAccount_expirePin (i : Fin 4) : KeepsAccount s (s.expirePin i) := by
  unfold State.expirePin
  split
  · split
    · split
      · exact (keepsAccount_endPin ..).trans (keepsAccount_raise ..)
      · exact .refl s
    · exact .refl s
  · exact .refl s

theorem keepsAccount_unlockStep (mask : List Bool) (bytes : List Byte) :
    KeepsAccount s (s.unlockStep q mask bytes) := by
  unfold State.unlockStep State.performUnlock
  split
  · split
    · split
      · refine .trans ?_ (keepsAccount_applyHeldRecall ..)
        split <;> exact .of_same rfl rfl
      · exact .refl s
    · exact .refl s
  · exact keepsAccount_answer ..

/-! ### Requests at the directory and at copy removal -/

theorem keepsAccount_joinList : KeepsAccount s (s.joinList w l) := by
  unfold State.joinList
  split
  · next h =>
    split
    · exact keepsAccount_refuse ..
    · exact .trans (keepsAccount_putEntry_fetchOf h (by rfl) (by rfl)) (keepsAccount_recordWay ..)
  · exact keepsAccount_refuse ..

theorem keepsAccount_issueUpgrade : KeepsAccount s (s.issueUpgrade w l x data) := by
  unfold State.issueUpgrade
  split
  · next h =>
    refine .trans (t := s.putWay l (.copy .upgrade x data)) (.of_same rfl rfl) ?_
    exact .trans (keepsAccount_issue (by exact not_ofDrain_of_freeTag h) ..) (keepsAccount_recordWay ..)
  · exact keepsAccount_refuse ..

/-- A request performed on its way touches the directory and the pins alone (R43 to R46, R70 to R72). -/
theorem keepsAccount_perform : KeepsAccount s (s.perform w l x data) := by
  unfold State.perform
  split <;> exact .of_same rfl rfl

theorem keepsAccount_resident : KeepsAccount s (s.resident w l) := by
  have hit (x data) : KeepsAccount s ((s.touch l).perform w l x data) :=
    .trans (t := s.touch l) (.of_same rfl rfl) (keepsAccount_perform ..)
  unfold State.resident
  split
  · exact .refl s
  · exact keepsAccount_joinList ..
  · split
    · split
      · exact keepsAccount_joinList ..
      · exact hit ..
    · exact hit ..
    · exact hit ..
    · exact hit ..
    · exact keepsAccount_issueUpgrade ..
    · exact keepsAccount_joinList ..
    · exact keepsAccount_refuse ..

theorem keepsAccount_allocate {g : Tag} (h : s.freeTag = some g) : KeepsAccount s (s.allocate w x l g) := by
  have hg := not_ofDrain_of_freeTag h
  refine .trans (t := (s.putWay l (.fill x)).touch l) (.of_same rfl rfl) (.trans ?_ (keepsAccount_recordWay ..))
  unfold State.fetch
  split <;> exact keepsAccount_issue (by exact hg) ..

theorem keepsAccount_miss : KeepsAccount s (s.miss w x) := by
  unfold State.miss
  split
  · exact keepsAccount_refuse ..
  · split
    · split
      · next hg =>
        dsimp only
        split
        · next hh => exact (keepsAccount_evict hg ..).trans (keepsAccount_allocate _ _ _ _ hh)
        · exact keepsAccount_refuse ..
      · exact keepsAccount_refuse ..
    · split
      · next hg => exact keepsAccount_allocate _ _ _ _ hg
      · exact keepsAccount_refuse ..

theorem keepsAccount_directory : KeepsAccount s (s.directory w x) := by
  unfold State.directory
  split
  · exact keepsAccount_refuse ..
  · split
    · exact keepsAccount_refuse ..
    · split
      · split
        · exact keepsAccount_refuse ..
        · exact keepsAccount_miss ..
      · split
        · exact keepsAccount_refuse ..
        · exact keepsAccount_resident ..

theorem keepsAccount_issueUncached {g : Tag} (h : s.freeTag = some g) : KeepsAccount s (s.issueUncached q w g) := by
  have hg := not_ofDrain_of_freeTag h
  unfold State.issueUncached
  split
  · exact keepsAccount_issue hg ..
  · exact keepsAccount_issue hg ..
  · exact keepsAccount_issue hg ..
  · exact .refl s

theorem keepsAccount_removeCopy : KeepsAccount s (s.removeCopy q w) := by
  have retry := keepsAccount_answer s q .retry
  unfold State.removeCopy
  dsimp only
  split
  · exact retry
  · split
    · split
      · split
        · exact retry
        · split
          · next hg => exact (keepsAccount_evict hg ..).trans (keepsAccount_answer ..)
          · exact retry
      · split
        · exact retry
        · split
          · exact retry
          · split
            · next hg =>
              exact .trans (t := s.putWay _ .i) (.of_same rfl rfl) (keepsAccount_issueUncached _ _ _ (by exact hg))
            · exact retry
    · split
      · exact retry
      · split
        · next hg => exact keepsAccount_issueUncached _ _ _ hg
        · exact retry

theorem keepsAccount_lockStep (len : Nat) : KeepsAccount s (s.lockStep q len) := by
  unfold State.lockStep
  split
  · exact keepsAccount_answer ..
  · split
    · exact keepsAccount_answer ..
    · next i _ =>
      exact .trans (t := s.reservePin i q.requester (lineOf q.addr)) (.of_same rfl rfl) (keepsAccount_directory ..)

theorem keepsAccount_pastWindow : KeepsAccount s (s.pastWindow q) := by
  unfold State.pastWindow
  split
  · exact keepsAccount_directory ..
  · exact keepsAccount_directory ..
  · exact keepsAccount_directory ..
  · exact keepsAccount_lockStep ..
  · exact keepsAccount_unlockStep ..

theorem keepsAccount_admitFromMode : KeepsAccount s (s.admitFromMode q) := by
  unfold State.admitFromMode State.windowCheck
  split
  · exact keepsAccount_answer ..
  · dsimp only
    split
    · exact keepsAccount_pastWindow ..
    · split
      · exact keepsAccount_answer ..
      · split
        · exact keepsAccount_answer ..
        · split
          · exact keepsAccount_answer ..
          · split
            · split
              · exact keepsAccount_removeCopy ..
              · exact .refl s
            · exact keepsAccount_pastWindow ..

/-! ### Admission -/

/-- What the watch check hands on, or keeps, has counted, captured or held the request, or answered it (R135). -/
theorem keepsAccount_watchCheck {t : State} (h : s.watchCheck q = .pass t ∨ s.watchCheck q = .stopped t) :
    KeepsAccount s t := by
  have captured (slot) : KeepsAccount s ((s.countHits q).captureRequest q (s.matching q) slot) := by
    unfold State.captureRequest
    split <;> exact .of_same rfl rfl
  unfold State.watchCheck at h
  dsimp only at h
  split at h
  · split at h <;> simp only [reduceCtorEq, WatchOutcome.stopped.injEq, false_or] at h <;> subst h
    · exact (captured _).trans (.of_same rfl rfl)
    · exact (captured _).trans (keepsAccount_answer ..)
  · split at h <;> simp only [reduceCtorEq, WatchOutcome.pass.injEq, or_false] at h <;> subst h
    · exact captured _
    · exact .of_same rfl rfl

theorem keepsAccount_admitPacket : KeepsAccount s (s.admitPacket p) := by
  unfold State.admitPacket State.admitRequest
  split
  · split
    · exact keepsAccount_answer ..
    · split
      · next h => exact (keepsAccount_watchCheck s _ (.inl h)).trans (keepsAccount_admitFromMode ..)
      · next h => exact keepsAccount_watchCheck s _ (.inr h)
  · exact .of_same rfl rfl

theorem keepsAccount_takeRequest (k : RequestKind) : KeepsAccount s (s.takeRequest k) := by
  unfold State.takeRequest
  split
  · split
    · exact (keepsAccount_takeHead ..).trans (keepsAccount_admitPacket ..)
    · exact .refl s
  · exact .refl s

end work

end Sys2Proof.Machine
end

section
/-! SUPPORT. The drain engine's own work, the ends of transactions and the bulk events keep the account of the drain
record, and so does every step (R87, R140 to R150). -/

namespace Sys2Proof.Machine

open Sys2Proof.Safety

/-! ### The scan (R142 to R145) -/

section scan

variable {s : State}

/-- The cursor advances, and past the last way the scan ends. -/
theorem drainForm_advanceCursor (hs : DrainForm s) (hd : s.drain.st = .scanning) (hw : s.drain.waiting = false) :
    DrainForm s.advanceCursor := by
  obtain ⟨account, hc, ha⟩ := (drainForm_scanning hd).1 hs
  rw [advanceCursor_eq hc]
  unfold scanned
  split
  · exact (drainForm_scanning (by exact hd)).2 ⟨account, hc, ha⟩
  · dsimp only
    split
    · next h1023 => exact (drainForm_scanning (by exact hd)).2 ⟨account, by dsimp only; omega, ha⟩
    · split
      · next hpos => exact (drainForm_finishing rfl).2 ⟨account, hpos, hw⟩
      · next hzero => exact (drainForm_idle rfl).2 ⟨account, by dsimp only at hzero ⊢; omega, rfl, rfl, rfl⟩

/-- A visit issues a write-back of origin DRAIN, and counts it outstanding (R143, R144). -/
theorem drainForm_issued {u : State} {g : Tag} {t : Txn} (hs : DrainForm s) (hd : s.drain.st = .scanning)
    (hg : s.freeTag = some g) (hu : u.txns = upd s.txns g (.issued t)) (ho : t.origin = .drain)
    (hk : t.kind.isWriteback = true)
    (hout : u.drain = { s.drain with outstanding := s.drain.outstanding + 1 }) : DrainForm u := by
  obtain ⟨⟨hn, hstray⟩, hc, ha⟩ := (drainForm_scanning hd).1 hs
  have hst : u.drain.st = .scanning := by rw [hout]; exact hd
  refine (drainForm_scanning hst).2 ⟨⟨?_, fun h => ?_⟩, by rw [hout]; exact hc, by rw [hout]; exact ha⟩
  · rw [hout, hu, tally_upd_entered (not_ofDrain_of_freeTag hg) (by simp [ofDrain, ho])]
    exact congrArg (· + 1) hn
  · rw [hu, upd_get]
    split
    · simp [strayDrain, hk]
    · exact hstray h

/-- A visit in SCANNING with waiting clear, row by row of R143 and R144. -/
theorem drainForm_visitWay (hs : DrainForm s) (hd : s.drain.st = .scanning) (hw : s.drain.waiting = false) (l : Loc) :
    DrainForm (s.visitWay l) := by
  obtain ⟨account, hc, ha⟩ := (drainForm_scanning hd).1 hs
  have waiting : DrainForm s.waitAtWay := (drainForm_scanning (by exact hd)).2 ⟨account, hc, ha⟩
  have clean : DrainForm (s.visitClean l) :=
    drainForm_advanceCursor ((drainForm_scanning (by exact hd)).2 ⟨account, hc, ha⟩) hd hw
  unfold State.visitWay
  split
  · exact drainForm_advanceCursor ((drainForm_scanning (by exact hd)).2 ⟨account, hc, ha⟩) hd hw
  · split
    · unfold State.visitKeep
      split
      · next hg => exact drainForm_advanceCursor (drainForm_issued hs hd hg rfl rfl rfl rfl) hd hw
      · exact waiting
    · unfold State.visitDrop
      split
      · next hg => exact drainForm_advanceCursor (drainForm_issued hs hd hg rfl rfl rfl rfl) hd hw
      · exact waiting
    · exact clean
    · exact clean
    · exact drainForm_advanceCursor hs hd hw

theorem drainForm_visit (hs : DrainForm s) : DrainForm s.visit := by
  unfold State.visit
  split
  · next h =>
    split
    · exact drainForm_visitWay hs h.1 h.2 _
    · exact hs
  · exact hs

end scan

/-! ### DRAIN and DRAIN_ABORT (R141, R147) -/

section commands

variable {s : State} (hs : DrainForm s) (p : Packet)
include hs

theorem drainForm_runDrain : DrainForm (runDrain s p) := by
  unfold runDrain
  split
  · next hd =>
    obtain ⟨⟨hn, hstray⟩, h0, -⟩ := (drainForm_idle hd).1 hs
    split
    · exact (drainForm_scanning rfl).2 ⟨⟨h0.symm.trans hn, hstray⟩, Nat.succ_pos 1023, rfl⟩
    · exact drainForm_of_keepsAccount hs (keepsAccount_reply ..)
  · exact drainForm_of_keepsAccount hs (keepsAccount_reply ..)

theorem drainForm_runDrainAbort : DrainForm (runDrainAbort s p) := by
  unfold runDrainAbort
  split
  · exact drainForm_of_keepsAccount hs (keepsAccount_reply ..)
  · refine drainForm_of_keepsAccount ?_ (keepsAccount_reply ..)
    have account := accounted_of_drainForm hs
    rw [endScan_eq, completeDrain_eq]
    split
    · next hpos => exact (drainForm_finishing rfl).2 ⟨account, hpos, rfl⟩
    · next hzero => exact (drainForm_idle rfl).2 ⟨account, by dsimp only at hzero ⊢; omega, rfl, rfl, rfl⟩
  · next hd =>
    obtain ⟨account, hpos, hw⟩ := (drainForm_finishing hd).1 hs
    refine drainForm_of_keepsAccount ?_ (keepsAccount_reply ..)
    exact (drainForm_finishing (by exact hd)).2 ⟨account, hpos, hw⟩

end commands

/-! ### The end of an entry (R87, R146) -/

/-- An ISSUED entry has left the table for one that the drain does not count, and its end is reported. -/
theorem drainForm_reportEnd {s u : State} {g : Tag} {t : Txn} {e : TxnEntry} (hs : DrainForm s)
    (ht : s.txns[g] = .issued t) (he : ofDrain e = false) (hu : u.txns = upd s.txns g e)
    (hd : DrainStands s.drain u.drain) (written : Bool) : DrainForm (u.reportEnd t written) := by
  cases ho : t.origin with
  | request =>
    rw [reportEnd_request ho]
    refine drainForm_of_keepsAccount hs (.of_entry hu (sameAccount_of_not_ofDrain ?_ he) hd)
    rw [ht]
    exact ofDrain_request ho
  | drain =>
    have hv : DrainForm { s with drain := u.drain } := drainForm_of_keepsAccount hs ⟨fun _ => .refl _, hd⟩
    obtain ⟨hn, hstray⟩ := accounted_of_drainForm hv
    have counted : ofDrain s.txns[g] = true := by simp [ht, ofDrain, ho, -Fin.getElem_fin]
    have left : u.drain.outstanding - 1 = tally u.txns ofDrain := by
      rw [hu, tally_upd_left counted he]
      exact congrArg (· - 1) hn
    have stray (h : Tag) : strayDrain u.txns[h] = false := by
      rw [hu, upd_get]
      split
      · exact strayDrain_of_not_ofDrain he
      · exact hstray h
    have account (d : Drain) (egress : List NearPacket) (hout : d.outstanding = u.drain.outstanding - 1) :
        Accounted { u with drain := d, egress := egress } := ⟨hout.trans left, stray⟩
    rw [reportEnd_eq, drainAfterEnd, if_neg (by simp [ho])]
    split
    · next hlast => exact (drainForm_idle rfl).2 ⟨account _ _ rfl, by simp only [drainCounted]; omega, rfl, rfl, rfl⟩
    · next hmore =>
      cases hst : u.drain.st with
      | idle =>
        have h0 : tally s.txns ofDrain = 0 := hn.symm.trans ((drainForm_idle (by exact hst)).1 hv).2.1
        rw [tally_eq_zero.1 h0 g] at counted
        cases counted
      | scanning =>
        obtain ⟨-, hc, ha⟩ := (drainForm_scanning (by exact hst)).1 hv
        exact (drainForm_scanning (by exact hst)).2 ⟨account _ _ rfl, hc, ha⟩
      | finishing =>
        obtain ⟨-, hpos, hw⟩ := (drainForm_finishing (by exact hst)).1 hv
        have more : ¬ u.drain.outstanding ≤ 1 := fun h => hmore ⟨hst, h⟩
        exact (drainForm_finishing (by exact hst)).2 ⟨account _ _ rfl, by simp only [drainCounted]; omega, hw⟩

section ends

variable (s : State) (l : Loc) (x : Addr)

/-- The end of a WRITEBACK KEEP touches its way alone. -/
theorem endKeep_account (after : CopyState) :
    (s.endKeep x l after).txns = s.txns ∧ (s.endKeep x l after).drain = s.drain := by
  unfold State.endKeep
  (repeat' split) <;> exact ⟨rfl, rfl⟩

/-- What FAIL and expiry do beside the entry itself leaves the table as it is. -/
theorem abandon_account (t : Txn) (st : RespStatus) :
    (s.abandon t st).txns = s.txns ∧ DrainStands s.drain (s.abandon t st).drain := by
  cases hk : t.kind with
  | fetchS x l | fetchX x l | upgrade x l _ =>
    rw [abandon_fetch (l := l) (by rw [hk]; rfl)]
    exact ⟨rfl, .inl rfl⟩
  | writebackKeep x l =>
    rw [abandon_keep hk]
    exact (endKeep_account s l x .m).imp id .inl
  | writebackDrop x i =>
    rw [abandon_drop hk]
    exact ⟨rfl, .inr rfl⟩
  | ucRead | ucWrite | farAtomic =>
    rw [abandon_lineless (by rw [hk]; rfl)]
    exact ⟨rfl, .inl rfl⟩

/-- A timer that is due ends its transaction (R84). -/
theorem drainForm_expireTxn {s : State} (hs : DrainForm s) (g : Tag) : DrainForm (s.expireTxn g) := by
  unfold State.expireTxn
  split
  · next t ht =>
    split
    · obtain ⟨htx, hd⟩ := abandon_account (s.timedOut g t) t .farTimeout
      refine drainForm_reportEnd (e := .orphaned) hs ht rfl ?_ ?_ false
      · exact congrArg (upd · g .orphaned) htx
      · exact hd
    · exact hs
  · exact hs

/-! ### Grants (R69 to R77) -/

theorem keepsAccount_walkOne {w : Waiter} {o o' : Option Requester} {t : State} (h : s.walkOne l o w = some (t, o')) :
    KeepsAccount s t := by
  unfold State.walkOne at h
  split at h
  · cases h; exact keepsAccount_refuse ..
  · split at h
    · split at h
      · cases h; exact keepsAccount_perform ..
      · split at h <;> cases h; exact keepsAccount_perform ..
      · split at h <;> cases h; exact keepsAccount_perform ..
    · cases h

theorem keepsAccount_walk (ws : List Waiter) (o : Option Requester) :
    KeepsAccount s (State.walk l ws o s).1 := by
  induction ws generalizing s o with
  | nil => exact .refl s
  | cons w ws ih =>
    rw [walk_cons]
    split
    · next h => exact (keepsAccount_walkOne s l h).trans (ih ..)
    · exact .refl s

/-- The walk goes on as an UPGRADE of origin REQUEST (R74). -/
theorem keepsAccount_stopWalk {s : State} {g : Tag} {t : Txn} (ho : t.origin = .request)
    (hg : ofDrain s.txns[g] = false) (left : List Waiter) : KeepsAccount s (s.stopWalk g t x l left) := by
  unfold State.stopWalk
  rw [ho]
  dsimp only
  split
  · exact .trans (t := s.putWay l _) (.of_same rfl rfl) (keepsAccount_issue (by exact hg) ..)
  · exact keepsAccount_issue hg ..

/-- A grant to an entry of origin REQUEST: the walk, and what follows it (R69 to R75). -/
theorem keepsAccount_walkAndFinish {s : State} {g : Tag} {t : Txn} (ho : t.origin = .request)
    (hg : ofDrain s.txns[g] = false) : KeepsAccount s (s.walkAndFinish g t x l) := by
  have walked := keepsAccount_walk s l t.waiters none
  unfold State.walkAndFinish
  split
  · next h =>
    rw [h] at walked
    exact (walked.trans (keepsAccount_releaseTag (walked.not_ofDrain hg))).trans (keepsAccount_applyHeldRecall ..)
  · next h =>
    rw [h] at walked
    exact (walked.trans (keepsAccount_stopWalk l x ho (walked.not_ofDrain hg) _)).trans
      (keepsAccount_applyHeldRecall ..)

end ends

/-! ### The responses, by their kind -/

/-- What a response does to the ISSUED entry that it fits keeps the law. -/
def AppliesAccounted (f : State → Tag → Txn → List Byte → Option State) : Prop :=
  ∀ s g t payload u, DrainForm s → s.txns[g] = .issued t → f s g t payload = some u → DrainForm u

/-- A response that fits no WRITEBACK fits entries of origin REQUEST alone. -/
theorem appliesAccounted_of_request {f : State → Tag → Txn → List Byte → Option State}
    (hf : ∀ s g t payload u, f s g t payload = some u → t.kind.isWriteback = false ∧
      (t.origin = .request → ofDrain s.txns[g] = false → KeepsAccount s u)) : AppliesAccounted f := by
  intro s g t payload u hs ht h
  obtain ⟨hk, keeps⟩ := hf s g t payload u h
  have ho := origin_of_not_writeback hs ht hk
  exact drainForm_of_keepsAccount hs (keeps ho (ht ▸ ofDrain_request ho))

theorem keepsAccount_installed {s : State} {g : Tag} {t : Txn} (ho : t.origin = .request)
    (hg : ofDrain s.txns[g] = false) (l : Loc) (st : CopyState) (x : Addr) (data : LineData) :
    KeepsAccount s ((s.install l st x data).walkAndFinish g t x l) :=
  .trans (t := s.install l st x data) (.of_same rfl rfl) (keepsAccount_walkAndFinish l x ho (by exact hg))

theorem applyGrantSData_accounted : AppliesAccounted applyGrantSData := by
  refine appliesAccounted_of_request fun s g t payload u h => ?_
  unfold applyGrantSData at h
  split at h
  · split at h <;> cases h <;> next hk => exact ⟨by rw [hk]; rfl, fun ho hg => keepsAccount_installed ho hg ..⟩
  · cases h

theorem applyGrantXData_accounted : AppliesAccounted applyGrantXData := by
  refine appliesAccounted_of_request fun s g t payload u h => ?_
  unfold applyGrantXData at h
  split at h
  · split at h <;> cases h <;> next hk => exact ⟨by rw [hk]; rfl, fun ho hg => keepsAccount_installed ho hg ..⟩
  · cases h

theorem applyGrantX_accounted : AppliesAccounted applyGrantX := by
  refine appliesAccounted_of_request fun s g t payload u h => ?_
  unfold applyGrantX at h
  split at h
  · split at h
    · next hk =>
      cases h
      refine ⟨by rw [hk]; rfl, fun ho hg => ?_⟩
      rw [ho]
      exact (keepsAccount_raise ..).trans (keepsAccount_issue (by exact hg) ..)
    · next hk =>
      refine ⟨by rw [hk]; rfl, fun ho hg => ?_⟩
      split at h <;> cases h
      · exact .trans (t := s.install _ _ _ _) (.of_same rfl rfl) (keepsAccount_walkAndFinish _ _ ho (by exact hg))
      · exact keepsAccount_walkAndFinish _ _ ho hg
    · cases h
  · cases h

theorem applyWbDone_accounted : AppliesAccounted applyWbDone := by
  intro s g t payload u hs ht h
  unfold applyWbDone at h
  split at h
  · split at h <;> cases h
    · exact drainForm_reportEnd (e := .free) hs ht rfl rfl (.inr rfl) true
    · next x l _ =>
      obtain ⟨htx, hd⟩ := endKeep_account s l x .x
      refine drainForm_reportEnd (e := .free) hs ht rfl (congrArg (upd · g .free) htx) (.inr ?_) true
      rw [State.releaseTag_drain, hd]
  · cases h

theorem keepsAccount_completeUncached {s : State} {g : Tag} (hg : ofDrain s.txns[g] = false) (t : Txn)
    (data : List Byte) : KeepsAccount s (s.completeUncached g t data) := by
  rw [completeUncached_eq]
  exact .of_entry rfl (sameAccount_of_not_ofDrain hg rfl) (.inr rfl)

theorem applyUcData_accounted : AppliesAccounted applyUcData := by
  refine appliesAccounted_of_request fun s g t payload u h => ?_
  unfold applyUcData at h
  split at h
  · next hk =>
    split at h <;> cases h
    exact ⟨by rw [hk]; rfl, fun _ hg => keepsAccount_completeUncached hg ..⟩
  · cases h

theorem applyUcDone_accounted : AppliesAccounted applyUcDone := by
  refine appliesAccounted_of_request fun s g t payload u h => ?_
  unfold applyUcDone at h
  split at h
  · split at h <;> cases h
    next hk => exact ⟨by rw [hk]; rfl, fun _ hg => keepsAccount_completeUncached hg ..⟩
  · cases h

theorem applyAtomicResult_accounted : AppliesAccounted applyAtomicResult := by
  refine appliesAccounted_of_request fun s g t payload u h => ?_
  unfold applyAtomicResult at h
  split at h
  · next hk =>
    split at h <;> cases h
    exact ⟨by rw [hk]; rfl, fun _ hg => keepsAccount_completeUncached hg ..⟩
  · cases h

theorem applyFail_accounted : AppliesAccounted applyFail := by
  intro s g t payload u hs ht h
  unfold applyFail at h
  split at h <;> cases h
  obtain ⟨htx, hd⟩ := abandon_account s t .farFail
  exact drainForm_reportEnd (e := .free) hs ht rfl (congrArg (upd · g .free) htx) (hd.trans (.inr rfl)) false

theorem applyNone_accounted : AppliesAccounted fun _ _ _ _ => none := by
  intro s g t payload u _ _ h
  cases h

/-- Conditions 1 to 3 of R67, and the response applied. -/
theorem drainForm_takeResponse {f : State → Tag → Txn → List Byte → Option State} (hf : AppliesAccounted f)
    {s : State} (hs : DrainForm s) (wanted : Packet → Bool) : DrainForm (s.takeResponse wanted f) := by
  unfold State.takeResponse
  split
  · next p rest _ =>
    split
    · have hr : DrainForm { s with respCh := rest } := hs
      generalize ({ s with respCh := rest } : State) = u at hr
      have discarded (b) : DrainForm (u.raiseFarProtocolTag b) := drainForm_of_keepsAccount hr (keepsAccount_raise ..)
      unfold State.respond
      split
      · exact discarded _
      · split
        · exact discarded _
        · next ho => exact drainForm_of_keepsAccount hr (keepsAccount_releaseTag (by rw [ho]; rfl))
        · next ht =>
          split
          · next h => exact hf _ _ _ _ _ hr ht h
          · exact discarded _
    · exact hs
  · exact hs

end Sys2Proof.Machine
end

section
/-! SUPPORT. Every command and the tick keep the account of the drain record (R140). -/

namespace Sys2Proof.Machine

open Sys2Proof.Safety

/-! ### The bulk events (R149, R150) -/

section events

variable {s : State} (hs : DrainForm s)
include hs

/-- A traffic reset or far link loss leaves no entry that the drain counts, and ends the drain (R149). -/
theorem drainForm_stopped {u : State} (hu : ∀ g : Tag, ofDrain u.txns[g] = false)
    (hd : u.drain = drainStopped s.drain) : DrainForm u := by
  have count : tally u.txns ofDrain = 0 := tally_eq_zero.2 hu
  have stray (g : Tag) : strayDrain u.txns[g] = false := strayDrain_of_not_ofDrain (hu g)
  unfold drainStopped at hd
  split at hd
  · next hi =>
    obtain ⟨-, h0, hrest⟩ := (drainForm_idle hi).1 hs
    rw [← hd] at hi h0 hrest
    exact (drainForm_idle hi).2 ⟨⟨h0.trans count.symm, stray⟩, h0, hrest⟩
  · refine (drainForm_idle (by rw [hd])).2 ⟨⟨?_, stray⟩, ?_⟩ <;> simp [hd, count]

theorem drainForm_trafficReset : DrainForm s.trafficReset := by
  have answered (t : State) (p : Packet) : KeepsAccount t (t.answerReset p) := by
    unfold State.answerReset
    split <;> exact keepsAccount_emit ..
  have requests : KeepsAccount s s.resetIngress :=
    .trans (t := { s with ingress := [] }) (.of_same rfl rfl)
      (.foldl (fun t p => (keepsAccount_takeHead t p []).trans (answered ..)) ..)
  have holds (t : State) : KeepsAccount t t.resetHolds := by
    rw [resetHolds_eq]
    exact .of_same rfl rfl
  have waiters (t : State) (ws) : KeepsAccount t (t.answerAll ws .reset) := by
    rw [answerAll_eq]
    exact .of_same rfl rfl
  have recalls (t : State) (rs) : KeepsAccount t (t.ackAll rs) := by
    rw [ackAll_eq]
    exact .of_same rfl rfl
  have before (ws rs) : DrainForm ((s.resetIngress.resetHolds.answerAll ws .reset).ackAll rs) :=
    drainForm_of_keepsAccount hs (((requests.trans (holds _)).trans (waiters ..)).trans (recalls ..))
  unfold State.trafficReset
  rw [stopDrain_eq]
  refine drainForm_stopped (before _ _) (fun g => ?_) rfl
  dsimp only
  rw [mapTable_get, orphan_eq]
  split <;> rfl

theorem drainForm_loseFarLink : DrainForm s.loseFarLink := by
  rw [loseFarLink_eq]
  refine drainForm_stopped hs (fun g => ?_) rfl
  exact congrArg ofDrain (replicate_get ..)

/-- The drain goes on without its reply (R150). -/
theorem drainForm_loseNearLink : DrainForm s.loseNearLink := by
  have waiters : KeepsAccount s s.nearLost := by
    refine ⟨fun g => ?_, .inl rfl⟩
    rw [show s.nearLost.txns[g] = TxnEntry.dropWaiters s.txns[g] from mapTable_get ..]
    cases s.txns[g] with
    | issued t => exact sameAccount_issued rfl rfl
    | _ => exact .refl _
  have pins (t : State) : KeepsAccount t t.clearPins := by
    refine .foldl (fun s i => ?_) _ t
    split
    · exact keepsAccount_endPin s ..
    · exact .refl s
  have lost : DrainForm s.nearLost.clearPins := drainForm_of_keepsAccount hs (waiters.trans (pins _))
  rw [loseNearLink_eq]
  generalize s.nearLost.clearPins = u at lost
  cases hd : u.drain.st with
  | idle =>
    obtain ⟨account, h0, -, hrest⟩ := (drainForm_idle hd).1 lost
    exact (drainForm_idle (by exact hd)).2 ⟨account, h0, rfl, hrest⟩
  | scanning => exact (drainForm_scanning (by exact hd)).2 ((drainForm_scanning hd).1 lost)
  | finishing => exact (drainForm_finishing (by exact hd)).2 ((drainForm_finishing hd).1 lost)

end events

/-! ### Management commands, and the delivery of notices -/

section commands

variable (s : State) (p : Packet)

/-- The commands that read or write an entry (R154, R155). -/
theorem keepsAccount_runEntry {run : State → Packet → State}
    (h : run ∈ [runReadWindow, runReadWatch, runReadConfig, runWriteWindow, runWriteWatch, runWriteConfig]) :
    KeepsAccount s (run s p) := by
  simp only [List.mem_cons, List.not_mem_nil, or_false] at h
  obtain rfl | rfl | rfl | rfl | rfl | rfl := h
  · unfold runReadWindow; (repeat' split) <;> exact .of_same rfl rfl
  · unfold runReadWatch; (repeat' split) <;> exact .of_same rfl rfl
  · unfold runReadConfig; split <;> exact .of_same rfl rfl
  · unfold runWriteWindow; (repeat' split) <;> exact .of_same rfl rfl
  · unfold runWriteWatch; (repeat' split) <;> exact .of_same rfl rfl
  · unfold runWriteConfig; (repeat' split) <;> exact .of_same rfl rfl

theorem keepsAccount_runPopCapture : KeepsAccount s (runPopCapture s p) := by
  unfold runPopCapture
  split <;> exact .of_same rfl rfl

theorem keepsAccount_runReleaseHold : KeepsAccount s (runReleaseHold s p) := by
  unfold runReleaseHold
  split
  · next i _ =>
    split
    · exact .trans (t := { s with holds := upd s.holds i none }) (.of_same rfl rfl)
        ((keepsAccount_admitFromMode ..).trans (keepsAccount_reply ..))
    · exact keepsAccount_reply ..
  · exact keepsAccount_reply ..

theorem keepsAccount_runDiscardHold : KeepsAccount s (runDiscardHold s p) := by
  unfold runDiscardHold
  (repeat' split) <;> exact .of_same rfl rfl

theorem keepsAccount_runBreakPin : KeepsAccount s (runBreakPin s p) := by
  unfold runBreakPin
  split
  · split
    · split
      · exact (keepsAccount_endPin ..).trans (keepsAccount_reply ..)
      · exact keepsAccount_reply ..
    · exact keepsAccount_reply ..
  · exact keepsAccount_reply ..

theorem keepsAccount_runReattach : KeepsAccount s (runReattach s p) := by
  unfold runReattach
  split <;> exact .of_same rfl rfl

theorem keepsAccount_takeNotice : KeepsAccount s s.takeNotice := by
  unfold State.takeNotice
  split <;> exact .of_same rfl rfl

theorem keepsAccount_endInterval : KeepsAccount s s.endInterval := by
  unfold State.endInterval
  split
  · split
    · exact .trans (t := { s with noticeInterval := none }) (.of_same rfl rfl) (keepsAccount_takeNotice _)
    · exact .refl s
  · exact .refl s

end commands

/-- A taken command keeps the law when its execution does. -/
theorem drainForm_takeCommand {s : State} (hs : DrainForm s) (wanted : Packet → Bool) {run : State → Packet → State}
    (hr : ∀ s p, DrainForm s → DrainForm (run s p)) : DrainForm (s.takeCommand wanted run) := by
  unfold State.takeCommand
  split
  · next p rest _ =>
    split
    · have taken := drainForm_of_keepsAccount hs (keepsAccount_takeHead s p rest)
      unfold State.command
      split
      · exact drainForm_of_keepsAccount taken (keepsAccount_reply ..)
      · split
        · exact drainForm_of_keepsAccount taken (keepsAccount_reply ..)
        · exact hr _ _ taken
    · exact hs
  · exact hs

theorem drainForm_reset : DrainForm State.reset :=
  (drainForm_idle rfl).2 ⟨⟨(tally_eq_zero.2 fun _ => congrArg ofDrain (replicate_get ..)).symm,
    fun _ => congrArg strayDrain (replicate_get ..)⟩, rfl, rfl, rfl, rfl⟩

/-! ### Every step -/

/-- Every command keeps the law. -/
theorem drainForm_exec {c : Instr} {s t : State} (hs : DrainForm s) (h : exec c s = .next t) : DrainForm t := by
  have kept {u : State} (k : KeepsAccount s u) : DrainForm u := drainForm_of_keepsAccount hs k
  have response {f} (hf : AppliesAccounted f) (wanted) : DrainForm (s.takeResponse wanted f) :=
    drainForm_takeResponse hf hs wanted
  have command {run : State → Packet → State} (hr : ∀ s p, KeepsAccount s (run s p)) (wanted) :
      DrainForm (s.takeCommand wanted run) :=
    drainForm_takeCommand hs wanted fun s p hs => drainForm_of_keepsAccount hs (hr s p)
  cases c with
  | packetArrival p =>
    cases h
    split <;> exact kept (.of_same rfl rfl)
  | read => cases h; exact kept (keepsAccount_takeRequest ..)
  | write => cases h; exact kept (keepsAccount_takeRequest ..)
  | lockRead => cases h; exact kept (keepsAccount_takeRequest ..)
  | unlockWrite => cases h; exact kept (keepsAccount_takeRequest ..)
  | atomic => cases h; exact kept (keepsAccount_takeRequest ..)
  | unknownKindRequest =>
    simp only [exec, execUnknownKindRequest] at h
    split at h
    · split at h <;> cases h <;> exact kept (.of_same rfl rfl)
    · cases h; exact hs
  | responseArrival p =>
    cases h
    split <;> exact kept (.of_same rfl rfl)
  | grantSData => cases h; exact response applyGrantSData_accounted _
  | grantXData => cases h; exact response applyGrantXData_accounted _
  | grantX => cases h; exact response applyGrantX_accounted _
  | wbDone => cases h; exact response applyWbDone_accounted _
  | ucData => cases h; exact response applyUcData_accounted _
  | ucDone => cases h; exact response applyUcDone_accounted _
  | atomicResult => cases h; exact response applyAtomicResult_accounted _
  | fail => cases h; exact response applyFail_accounted _
  | unknownResponse => cases h; exact response applyNone_accounted _
  | shortResponse =>
    simp only [exec, execShortResponse] at h
    split at h
    · split at h <;> cases h <;> exact kept (.of_same rfl rfl)
    · cases h; exact hs
  | transactionExpiry g => cases h; exact drainForm_expireTxn hs g
  | recallArrival p =>
    cases h
    split
    · exact kept (.trans (t := { s with recallCh := s.recallCh ++ [p] }) (.of_same rfl rfl)
        (keepsAccount_examineRecalls _))
    · exact hs
  | downgrade => cases h; exact kept (keepsAccount_takeRecall ..)
  | surrender => cases h; exact kept (keepsAccount_takeRecall ..)
  | pinExpiry i => cases h; exact kept (keepsAccount_expirePin s i)
  | drainVisit => cases h; exact drainForm_visit hs
  | readEntryWindow => cases h; exact command (fun s p => keepsAccount_runEntry s p (by simp)) _
  | readEntryWatch => cases h; exact command (fun s p => keepsAccount_runEntry s p (by simp)) _
  | readEntryConfig => cases h; exact command (fun s p => keepsAccount_runEntry s p (by simp)) _
  | writeEntryWindow => cases h; exact command (fun s p => keepsAccount_runEntry s p (by simp)) _
  | writeEntryWatch => cases h; exact command (fun s p => keepsAccount_runEntry s p (by simp)) _
  | writeEntryConfig => cases h; exact command (fun s p => keepsAccount_runEntry s p (by simp)) _
  | readStatus => cases h; exact command (fun s p => keepsAccount_reply s p ..) _
  | probeLine => cases h; exact command (fun s p => keepsAccount_reply s p ..) _
  | listPins => cases h; exact command (fun s p => keepsAccount_reply s p ..) _
  | drain => cases h; exact drainForm_takeCommand hs _ fun s p hs => drainForm_runDrain hs p
  | drainAbort => cases h; exact drainForm_takeCommand hs _ fun s p hs => drainForm_runDrainAbort hs p
  | popCapture => cases h; exact command keepsAccount_runPopCapture _
  | releaseHold => cases h; exact command keepsAccount_runReleaseHold _
  | discardHold => cases h; exact command keepsAccount_runDiscardHold _
  | breakPin => cases h; exact command keepsAccount_runBreakPin _
  | trafficReset =>
    cases h
    exact drainForm_takeCommand hs _ fun s p hs =>
      drainForm_of_keepsAccount (drainForm_trafficReset hs) (keepsAccount_reply _ p ..)
  | reattach => cases h; exact command keepsAccount_runReattach _
  | noticeTake => cases h; exact kept (keepsAccount_takeNotice s)
  | noticeIntervalEnd => cases h; exact kept (keepsAccount_endInterval s)
  | egressDeparture =>
    simp only [exec, execEgressDeparture] at h
    split at h <;> cases h <;> exact kept (.of_same rfl rfl)
  | farPacketDeparture channel =>
    simp only [exec, execFarPacketDeparture] at h
    split at h
    · split at h <;> cases h <;> exact kept (.of_same rfl rfl)
    · split at h <;> cases h <;> exact kept (.of_same rfl rfl)
    · cases h; exact hs
  | nearLinkDown =>
    simp only [exec, execNearLinkDown] at h
    split at h <;> cases h
    · exact drainForm_loseNearLink hs
    · exact hs
  | nearLinkUp =>
    simp only [exec, execNearLinkUp] at h
    split at h <;> cases h <;> exact kept (.of_same rfl rfl)
  | farLinkDown =>
    simp only [exec, execFarLinkDown] at h
    split at h <;> cases h
    · exact drainForm_loseFarLink hs
    · exact hs
  | farLinkUp => cases h; exact kept (.of_same rfl rfl)
  | coldReset => cases h; exact drainForm_of_keepsAccount drainForm_reset (.of_same rfl rfl)
  | unknownCommand =>
    simp only [exec, execUnknownCommand] at h
    split at h
    · split at h <;> cases h <;> exact kept (.of_same rfl rfl)
    · cases h; exact hs

/-- The end of a microsecond: due entries expire one by one, and nothing else concerns the drain (R84, R183). -/
theorem drainForm_tick {s : State} (hs : DrainForm s) : DrainForm s.tick := by
  have entries : DrainForm ((List.finRange 32).foldl State.expireTxn s) := by
    generalize List.finRange 32 = l
    induction l generalizing s with
    | nil => exact hs
    | cons g l ih => exact ih (drainForm_expireTxn hs g)
  have rest := KeepsAccount.foldl keepsAccount_expirePin (List.finRange 4)
    ((List.finRange 32).foldl State.expireTxn s)
  have due : DrainForm s.expireDue := drainForm_of_keepsAccount entries (rest.trans (keepsAccount_endInterval _))
  unfold State.tick
  generalize s.expireDue = u at due
  exact drainForm_of_keepsAccount due (.of_same rfl rfl)

/-- Settles O11: a command at the front by `drainForm_exec`, the empty queue by `drainForm_tick`. -/
theorem stepsKeepTheDrainAccount : Obligations.StepsKeepTheDrainAccount := by
  intro s t hs h
  unfold step at h
  split at h
  · next c rest _ => exact drainForm_exec (s := { s with pending := rest }) hs h
  · rw [Host.Outcome.next.injEq] at h
    exact h ▸ drainForm_tick hs

end Sys2Proof.Machine
end

section
/-! SUPPORT. A visit of the drain engine by what it finds at the cursor (R142 to R145), and DRAIN and DRAIN_ABORT by the
state of the engine (R141, R147). -/

namespace Sys2Proof.Machine

open Sys2Proof.Safety

/-! ### The rows of R143 and R144 -/

section visits

variable {s : State} {l : Loc} {x : Addr} {data : LineData}

/-- An ACTIVE pin keeps the visit off the way. -/
theorem visitWay_pinned (h : s.activePinAt l ≠ none) : s.visitWay l = s.visitPinned :=
  if_pos (Option.isSome_iff_ne_none.2 h)

variable (hp : s.activePinAt l = none)
include hp

/-- I, FILL, UPGRADE and CLEANING are passed over. -/
theorem visitWay_passed (h : s.wayAt l = .i ∨ (s.wayAt l).isBusy = true) : s.visitWay l = s.advanceCursor := by
  simp only [State.visitWay, hp, Option.isSome_none, Bool.false_eq_true, if_false]
  split
  case h_5 => rfl
  all_goals next hw => simp [hw, Way.isBusy] at h

/-- Mode KEEP leaves S and X. -/
theorem visitWay_clean_keep {st : CopyState} (hw : s.wayAt l = .copy st x data) (hs : st = .s ∨ st = .x)
    (hm : s.drain.mode = .keep) : s.visitWay l = s.advanceCursor := by
  obtain rfl | rfl := hs <;> simp [State.visitWay, hp, hw, hm]

/-- Mode DROP gives up S and X. -/
theorem visitWay_clean_drop {st : CopyState} (hw : s.wayAt l = .copy st x data) (hs : st = .s ∨ st = .x)
    (hm : s.drain.mode = .drop) : s.visitWay l = s.visitClean l := by
  obtain rfl | rfl := hs <;> simp [State.visitWay, hp, hw, hm]

variable (hw : s.wayAt l = .copy .m x data)
include hw

theorem visitWay_modified_keep (hm : s.drain.mode = .keep) : s.visitWay l = s.visitKeep l x data := by
  simp [State.visitWay, hp, hw, hm]

theorem visitWay_modified_drop (hm : s.drain.mode = .drop) : s.visitWay l = s.visitDrop l x data := by
  simp [State.visitWay, hp, hw, hm]

/-- Without the entries that M needs the visit waits, in either mode (R145). -/
theorem visitWay_waits (h : s.freeTag = none ∨ (s.drain.mode = .drop ∧ s.freeSlot = none)) :
    s.visitWay l = s.waitAtWay := by
  cases hm : s.drain.mode with
  | keep =>
    have hg : s.freeTag = none := h.resolve_right (by simp [hm])
    rw [visitWay_modified_keep hp hw hm, State.visitKeep, hg]
  | drop =>
    rw [visitWay_modified_drop hp hw hm, State.visitDrop]
    split
    · next hslot htag => simp [hslot, htag] at h
    · rfl

end visits

/-- M in mode KEEP: a WRITEBACK KEEP, the line CLEANING (R143). -/
theorem visitKeep_eq {s : State} {g : Tag} (h : s.freeTag = some g) (l : Loc) (x : Addr) (data : LineData) :
    s.visitKeep l x data = State.advanceCursor { s with
      dir := (s.putWay l (.copy .cleaning x data)).dir
      txns := upd s.txns g (issuedNow s (.writebackKeep x l) [] .drain)
      reqCh := reqChAfter s [.writeback g x .keep data]
      drain := { s.drain with outstanding := s.drain.outstanding + 1 } } := by
  simp only [State.visitKeep, h]
  rfl

/-- M in mode DROP: a WRITEBACK DROP from the eviction buffer (R144). -/
theorem visitDrop_eq {s : State} {g : Tag} {slot : Fin 4} (h : s.freeTag = some g) (hs : s.freeSlot = some slot)
    (l : Loc) (x : Addr) (data : LineData) :
    s.visitDrop l x data = State.advanceCursor { s with
      dir := (s.putWay l .i).dir
      eb := upd s.eb slot (some { line := x, data := data, origin := .drain, tag := g })
      txns := upd s.txns g (issuedNow s (.writebackDrop x slot) [] .drain)
      reqCh := reqChAfter s [.writeback g x .drop data]
      drain := { s.drain with outstanding := s.drain.outstanding + 1 } } := by
  simp only [State.visitDrop, h, hs]
  rfl

/-- Settles O51: the row that fits by its lemma, the cursor by `advanceCursor_eq`. -/
theorem drainVisitsActOnTheWay : Obligations.DrainVisitsActOnTheWay := by
  intro s loc hs hw hset hway hf
  have hc : s.drain.cursorSet < 1024 := hset ▸ loc.set.isLt
  rw [exec_drainVisit hs hw hset hway]
  refine ⟨fun hp => ?_, fun hp => ⟨fun h => ?_, fun st x data hx hst => ⟨fun hm => ?_, fun hm => ?_⟩,
    fun x data g hx hm hg => ⟨_, setBecomes_putWay hf loc (.copy .cleaning x data), ?_⟩,
    fun x data g slot hx hm hg hslot => ⟨_, setBecomes_putWay hf loc .i, ?_⟩, fun x data hx h => ?_⟩⟩
  · rw [visitWay_pinned hp, State.visitPinned, advanceCursor_eq (by exact hc)]
  · rw [visitWay_passed hp h, advanceCursor_eq hc]
  · rw [visitWay_clean_keep hp hx hst hm, advanceCursor_eq hc]
  · refine ⟨_, setBecomes_putWay hf loc .i, ?_⟩
    rw [visitWay_clean_drop hp hx hst hm, State.visitClean, advanceCursor_eq (by exact hc)]
    rfl
  · rw [visitWay_modified_keep hp hx hm, visitKeep_eq hg, advanceCursor_eq (by exact hc)]
  · rw [visitWay_modified_drop hp hx hm, visitDrop_eq hg hslot, advanceCursor_eq (by exact hc)]
  · rw [visitWay_waits hp hx h]
    rfl

/-! ### DRAIN and DRAIN_ABORT -/

section commands

variable {s : State} {p : Packet} {rest : List Packet} (hm : FromManager s p)
include hm

/-- A manager's DRAIN is executed after its credit is returned (R141, R151). -/
theorem exec_drain (h : TakesCommand s p rest 6) : exec .drain s = .next (runDrain (credited s p rest) p) := by
  have e := exec_command h hm
  have hc : (commandByte p).toNat = 6 := by rw [h.2.2.2.1]; rfl
  simpa only [managementStep, managementRun, hc] using e

/-- A manager's DRAIN_ABORT is executed after its credit is returned (R147, R151). -/
theorem exec_drainAbort (h : TakesCommand s p rest 8) :
    exec .drainAbort s = .next (runDrainAbort (credited s p rest) p) := by
  have e := exec_command h hm
  have hc : (commandByte p).toNat = 8 := by rw [h.2.2.2.1]; rfl
  simpa only [managementStep, managementRun, hc] using e

end commands

/-- The code of a drain mode names it (R178). -/
theorem drainModeOf_code (m : DrainMode) : drainModeOf m.code = some m := by cases m <;> rfl

/-- Any other byte names no mode (R178). -/
theorem drainModeOf_unknown {b : Byte} (h1 : b ≠ 1) (h2 : b ≠ 2) : drainModeOf b = none := by
  unfold drainModeOf
  split
  · next h => exact absurd (byte_of_toNat h) h1
  · next h => exact absurd (byte_of_toNat h) h2
  · rfl

/-- While a drain runs, DRAIN is answered BUSY. -/
theorem runDrain_busy {s : State} (h : s.drain.st ≠ .idle) (p : Packet) : runDrain s p = s.reply p .busy := by
  unfold runDrain
  split
  · next hd => exact absurd hd h
  · rfl

/-- DRAIN_ABORT stops the scan, the write-backs still to be reported (R147). -/
theorem runDrainAbort_outstanding {s : State} (hd : s.drain.st = .scanning) (h : 0 < s.drain.outstanding)
    (p : Packet) : runDrainAbort s p = State.reply { s with
      drain := { s.drain with st := .finishing, waiting := false, aborted := true } } p .ok := by
  simp only [runDrainAbort, hd, endScan_eq, if_pos h]

/-- DRAIN_ABORT completes the drain at once, ABORTED, when nothing is outstanding (R146, R147). -/
theorem runDrainAbort_completes {s : State} (hn : s.nearLink = .up) (hd : s.drain.st = .scanning)
    (h : s.drain.outstanding = 0) (p : Packet) : runDrainAbort s p = State.reply { s with
      egress := s.egress ++ drainReplies s.drain .aborted
      drain := { s.drain with st := .idle, waiting := false, aborted := false, pendingReply := none } } p .ok := by
  simp only [runDrainAbort, hd, endScan_eq, h, lt_irrefl, if_false, completeDrain_eq, egressAfter, hn, if_true]
  rfl

/-- Settles O52: each command by the state of the engine, its reply while the near link is UP. -/
theorem drainsStartAndAbort : Obligations.DrainsStartAndAbort := by
  intro s p rest hm
  refine ⟨fun h => ?_, fun h => ?_⟩
  · rw [exec_drain hm h]
    have reply (st) : (credited s p rest).reply p st = replying (credited s p rest) p st := reply_eq (by exact h.1) ..
    refine ⟨fun hd => ?_, fun hd h1 h2 => ?_, fun mode hd hb => ?_⟩
    · rw [runDrain_busy (by exact hd), reply]
    · simp only [runDrain, credited_drain, hd, drainModeOf_unknown h1 h2, reply]
    · simp only [runDrain, credited_drain, hd, hb, drainModeOf_code]
      rfl
  · rw [exec_drainAbort hm h]
    have hn : (credited s p rest).nearLink = .up := h.1
    refine ⟨fun hd => ?_, fun hd => ?_, fun hd hpos => ?_, fun hd hzero => ?_⟩
    · simp only [runDrainAbort, credited_drain, hd]
      rw [reply_eq hn]
    · simp only [runDrainAbort, credited_drain, hd]
      rw [reply_eq (by exact hn)]
    · rw [runDrainAbort_outstanding (by exact hd) (by exact hpos), reply_eq (by exact hn)]
      rfl
    · rw [runDrainAbort_completes hn (by exact hd) (by exact hzero), reply_eq (by exact hn)]
      rfl

end Sys2Proof.Machine
end

section
/-! SUPPORT. Work that leaves the recall channel as it is: but for the arrival of a recall and the loss of the far link,
nothing touches it (R62, R93; log 7). -/

namespace Sys2Proof.Machine

open Sys2Proof.Safety

section channel

variable (s : State) (w : Waiter) (l : Loc) (x : Addr) (data : LineData) (r : RecallRecord) (q : Request) (g : Tag)
  (t : Txn)

/-! ### Recalls and pins -/

@[simp] theorem refuse_recallCh : (s.refuse w).recallCh = s.recallCh := by rw [refuse_eq]

@[simp] theorem answerAll_recallCh (ws : List Waiter) (st : RespStatus) :
    (s.answerAll ws st).recallCh = s.recallCh := by rw [answerAll_eq]

@[simp] theorem recordWay_recallCh : (s.recordWay w l).recallCh = s.recallCh := by
  unfold State.recordWay
  repeat' split
  all_goals rfl

@[simp] theorem evict_recallCh (i : Fin 4) (why : EvictionOrigin) (o : Origin) :
    (s.evict l x data i g why o).recallCh = s.recallCh := rfl

/-- A recall applied to its line is acknowledged, noted or deferred (R94). -/
@[simp] theorem applyRecall_recallCh : (s.applyRecall r).recallCh = s.recallCh := by
  unfold State.applyRecall State.deferRecall State.noteRecall State.recallCopy State.markCopyLost
  repeat' split
  all_goals rfl

@[simp] theorem applyHeldRecall_recallCh (o : Option RecallRecord) : (s.applyHeldRecall o).recallCh = s.recallCh := by
  cases o
  · rfl
  · exact applyRecall_recallCh s _

@[simp] theorem dropNoted_recallCh (o : Option RecallRecord) : (s.dropNoted o).recallCh = s.recallCh := by
  rw [dropNoted_eq]

theorem takeRecall_recallCh (k : RecallKind) : (s.takeRecall k).recallCh = s.recallCh := by
  unfold State.takeRecall
  dsimp only
  repeat' split
  all_goals simp

@[simp] theorem endPin_recallCh (i : Fin 4) (o : Option RecallRecord) : (s.endPin i o).recallCh = s.recallCh := by
  simp [State.endPin]

theorem expirePin_recallCh (i : Fin 4) : (s.expirePin i).recallCh = s.recallCh := by
  unfold State.expirePin
  repeat' split
  all_goals simp

@[simp] theorem unlockStep_recallCh (mask : List Bool) (bytes : List Byte) :
    (s.unlockStep q mask bytes).recallCh = s.recallCh := by
  unfold State.unlockStep State.performUnlock
  dsimp only
  repeat' split
  all_goals simp

/-! ### The directory and copy removal -/

@[simp] theorem joinList_recallCh : (s.joinList w l).recallCh = s.recallCh := by
  unfold State.joinList
  repeat' split
  all_goals simp

@[simp] theorem issueUpgrade_recallCh : (s.issueUpgrade w l x data).recallCh = s.recallCh := by
  unfold State.issueUpgrade
  split <;> simp

@[simp] theorem perform_recallCh : (s.perform w l x data).recallCh = s.recallCh := by
  unfold State.perform State.activatePin
  split <;> simp

@[simp] theorem resident_recallCh : (s.resident w l).recallCh = s.recallCh := by
  unfold State.resident
  repeat' split
  all_goals simp

@[simp] theorem allocate_recallCh : (s.allocate w x l g).recallCh = s.recallCh := by
  unfold State.allocate State.fetch
  split <;> simp

@[simp] theorem miss_recallCh : (s.miss w x).recallCh = s.recallCh := by
  unfold State.miss
  dsimp only
  repeat' split
  all_goals simp

@[simp] theorem directory_recallCh : (s.directory w x).recallCh = s.recallCh := by
  unfold State.directory
  repeat' split
  all_goals simp

@[simp] theorem removeCopy_recallCh : (s.removeCopy q w).recallCh = s.recallCh := by
  unfold State.removeCopy State.issueUncached
  dsimp only
  repeat' split
  all_goals rfl

@[simp] theorem pastWindow_recallCh : (s.pastWindow q).recallCh = s.recallCh := by
  unfold State.pastWindow State.toDirectory State.lockStep State.toDirectory
  repeat' split
  all_goals simp [State.reservePin]

theorem windowCheck_recallCh : (s.windowCheck q).recallCh = s.recallCh := by
  unfold State.windowCheck
  dsimp only
  repeat' split
  all_goals simp

/-! ### The drain engine -/

@[simp] theorem reportEnd_recallCh (b : Bool) : (s.reportEnd t b).recallCh = s.recallCh := by rw [reportEnd_eq]

@[simp] theorem advanceCursor_recallCh : s.advanceCursor.recallCh = s.recallCh := by
  unfold State.advanceCursor
  simp only [endScan_eq, completeDrain_eq]
  repeat' split
  all_goals rfl

theorem visit_recallCh : s.visit.recallCh = s.recallCh := by
  unfold State.visit State.visitWay State.visitPinned State.visitKeep State.visitDrop State.visitClean
    State.countOutstanding State.waitAtWay
  repeat' split
  all_goals simp

/-! ### Grants and the ends of entries -/

@[simp] theorem install_recallCh (st : CopyState) : (s.install l st x data).recallCh = s.recallCh := rfl

theorem walkOne_recallCh {o o' : Option Requester} {u : State} (h : s.walkOne l o w = some (u, o')) :
    u.recallCh = s.recallCh := by
  unfold State.walkOne at h
  split at h
  · cases h; exact refuse_recallCh s w
  · split at h
    · split at h
      · cases h; exact perform_recallCh ..
      · split at h <;> cases h; exact perform_recallCh ..
      · split at h <;> cases h; exact perform_recallCh ..
    · cases h

theorem walk_recallCh (ws : List Waiter) (o : Option Requester) : (State.walk l ws o s).1.recallCh = s.recallCh := by
  induction ws generalizing s o with
  | nil => rfl
  | cons w ws ih =>
    rw [walk_cons]
    split
    · next h => exact (ih _ _).trans (walkOne_recallCh s w l h)
    · rfl

@[simp] theorem stopWalk_recallCh (ws : List Waiter) : (s.stopWalk g t x l ws).recallCh = s.recallCh := by
  unfold State.stopWalk
  dsimp only
  split <;> simp

@[simp] theorem walkAndFinish_recallCh : (s.walkAndFinish g t x l).recallCh = s.recallCh := by
  have hw := walk_recallCh s l t.waiters none
  unfold State.walkAndFinish
  split
  · next h => rw [h] at hw; simpa using hw
  · next h => rw [h] at hw; simpa using hw

@[simp] theorem endKeep_recallCh (after : CopyState) : (s.endKeep x l after).recallCh = s.recallCh := by
  unfold State.endKeep
  repeat' split
  all_goals simp

@[simp] theorem abandon_recallCh (st : RespStatus) : (s.abandon t st).recallCh = s.recallCh := by
  unfold State.abandon
  split <;> simp

@[simp] theorem completeUncached_recallCh (bytes : List Byte) : (s.completeUncached g t bytes).recallCh = s.recallCh := by
  rw [completeUncached_eq]

theorem expireTxn_recallCh : (s.expireTxn g).recallCh = s.recallCh := by
  unfold State.expireTxn
  repeat' split
  all_goals simp

end channel

/-! ### The responses, by their kind -/

/-- What a response does to the entry that it fits is work within the part that leaves the recall channel as it is. -/
def AppliesApart (f : State → Tag → Txn → List Byte → Option State) : Prop :=
  ∀ s g t payload u, f s g t payload = some u → Within s u ∧ u.recallCh = s.recallCh

theorem AppliesWithin.apart {f : State → Tag → Txn → List Byte → Option State} (hf : AppliesWithin f)
    (hc : ∀ s g t payload u, f s g t payload = some u → u.recallCh = s.recallCh) : AppliesApart f :=
  fun s g t payload u h => ⟨hf s g t payload u h, hc s g t payload u h⟩

theorem applyGrantSData_apart : AppliesApart applyGrantSData := by
  refine applyGrantSData_within.apart fun s g t payload u h => ?_
  unfold applyGrantSData at h
  split at h
  · split at h <;> cases h <;> simp
  · cases h

theorem applyGrantXData_apart : AppliesApart applyGrantXData := by
  refine applyGrantXData_within.apart fun s g t payload u h => ?_
  unfold applyGrantXData at h
  split at h
  · split at h <;> cases h <;> simp
  · cases h

theorem applyGrantX_apart : AppliesApart applyGrantX := by
  refine applyGrantX_within.apart fun s g t payload u h => ?_
  unfold applyGrantX at h
  split at h
  · split at h
    · cases h; rfl
    · split at h <;> cases h <;> simp
    · cases h
  · cases h

theorem applyWbDone_apart : AppliesApart applyWbDone := by
  refine applyWbDone_within.apart fun s g t payload u h => ?_
  unfold applyWbDone at h
  split at h
  · split at h <;> cases h <;> simp
  · cases h

theorem applyUcData_apart : AppliesApart applyUcData := by
  refine applyUcData_within.apart fun s g t payload u h => ?_
  unfold applyUcData at h
  split at h
  · split at h <;> cases h; simp
  · cases h

theorem applyUcDone_apart : AppliesApart applyUcDone := by
  refine applyUcDone_within.apart fun s g t payload u h => ?_
  unfold applyUcDone at h
  split at h
  · split at h <;> cases h; simp
  · cases h

theorem applyAtomicResult_apart : AppliesApart applyAtomicResult := by
  refine applyAtomicResult_within.apart fun s g t payload u h => ?_
  unfold applyAtomicResult at h
  split at h
  · split at h <;> cases h; simp
  · cases h

theorem applyFail_apart : AppliesApart applyFail := by
  refine applyFail_within.apart fun s g t payload u h => ?_
  unfold applyFail at h
  split at h <;> cases h
  simp

theorem applyNone_apart : AppliesApart fun _ _ _ _ => none := by
  intro s g t payload u h
  cases h

theorem respond_recallCh {f : State → Tag → Txn → List Byte → Option State} (hf : AppliesApart f) (s : State)
    (p : Packet) : (s.respond p f).recallCh = s.recallCh := by
  unfold State.respond
  split
  · rfl
  · split
    · rfl
    · rfl
    · split
      · next h => exact (hf _ _ _ _ _ h).2
      · rfl

theorem takeResponse_recallCh {f : State → Tag → Txn → List Byte → Option State} (hf : AppliesApart f) (s : State)
    (wanted : Packet → Bool) : (s.takeResponse wanted f).recallCh = s.recallCh := by
  unfold State.takeResponse
  split
  · split
    · exact respond_recallCh hf ..
    · rfl
  · rfl

end Sys2Proof.Machine
end

section
/-! SUPPORT. Work that keeps the device mode, the far link, and the law that binds them to the other blocks
(R166, R169, R171). -/

namespace Sys2Proof.Machine

open Sys2Proof.Safety

/-! ### What the law of the mode reads -/

/-- The mode, the far link, the recall channel, and the blocks that are empty in ISOLATED (R166). -/
def State.linePart (s : State) : Mode × LinkState × List Packet × List (Fin 1024 × DirSet) × Vector TxnEntry 32 ×
    Vector (Option EvictionEntry) 4 × Vector (Option Pin) 4 :=
  (s.mode, s.farLink, s.recallCh, s.dir, s.txns, s.eb, s.pins)

/-- What is empty while the far link is DOWN (R169). -/
def State.farPart (s : State) : List FarRequest × List RecallAck × List Packet × List RecallRecord × Nat :=
  (s.reqCh, s.ackCh, s.respCh, s.recallQueue, s.recallCount)

/-- The mode and the far link stand, and the law of the mode is kept. -/
structure KeepsMode (s t : State) : Prop where
  mode : t.mode = s.mode
  farLink : t.farLink = s.farLink
  form : ModeForm s → ModeForm t

theorem KeepsMode.refl (s : State) : KeepsMode s s := ⟨rfl, rfl, id⟩

theorem KeepsMode.trans {s t u : State} (h : KeepsMode s t) (k : KeepsMode t u) : KeepsMode s u :=
  ⟨k.mode.trans h.mode, k.farLink.trans h.farLink, k.form ∘ h.form⟩

/-- A step at a time over a list. -/
theorem KeepsMode.foldl {α : Type} {f : State → α → State} (h : ∀ s a, KeepsMode s (f s a)) (l : List α)
    (s : State) : KeepsMode s (l.foldl f s) := by
  induction l generalizing s with
  | nil => exact .refl s
  | cons a l ih => exact (h s a).trans (ih _)

/-- The far channels and the recall queue do as they must; all else that the law reads stands. -/
theorem KeepsMode.of_linePart {s t : State} (h : t.linePart = s.linePart)
    (hd : s.farLink = .down → t.farPart = s.farPart) : KeepsMode s t := by
  simp only [State.linePart, Prod.mk.injEq] at h
  obtain ⟨hm, hf, hc, hdir, htxns, heb, hpins⟩ := h
  refine ⟨hm, hf, fun ⟨up, empty, isolated, channel⟩ => ?_⟩
  refine ⟨by rwa [hm, hf], fun h => ?_, fun h => ?_, hc.trans channel⟩
  · rw [hf] at h
    have e := hd h
    simp only [State.farPart, Prod.mk.injEq] at e
    obtain ⟨hr, ha, hp, hq, hn⟩ := e
    rw [hr, ha, hp, hq, hn]
    exact empty h
  · unfold AllInvalid
    rw [hdir, htxns, heb, hpins]
    exact isolated (hm ▸ h)

/-- Nothing that the law reads changes. -/
theorem KeepsMode.of_same {s t : State} (hl : t.linePart = s.linePart) (hf : t.farPart = s.farPart) : KeepsMode s t :=
  .of_linePart hl fun _ => hf

/-- While the far link is UP the channels and the recall queue may come to hold anything (R62, R92). -/
theorem KeepsMode.of_up {s t : State} (hu : s.farLink = .up) (h : t.linePart = s.linePart) : KeepsMode s t :=
  .of_linePart h fun hd => by simp [hu] at hd

/-- Work within the part that leaves the recall channel as it is keeps the law in OPERATING, where the law says no more
of the blocks. -/
theorem Within.keepsMode {s t : State} (h : Within s t) (hc : t.recallCh = s.recallCh)
    (hi : ModeForm s → s.mode = .isolated → ModeForm t) : KeepsMode s t := by
  refine ⟨h.mode, h.farLink, fun hs => ?_⟩
  cases hm : s.mode with
  | isolated => exact hi hs hm
  | operating =>
    obtain ⟨up, -, -, channel⟩ := hs
    have hu : t.farLink = .up := h.farLink.trans (up hm)
    exact ⟨fun _ => hu, fun hd => by simp [hu] at hd, fun ho => by simp [h.mode, hm] at ho, hc.trans channel⟩

/-! ### What the law gives in ISOLATED, and while the far link is DOWN -/

section law

variable {s : State} (hs : ModeForm s)
include hs

theorem txns_of_isolated (hi : s.mode = .isolated) (g : Tag) : s.txns[g] = .free := by
  obtain ⟨-, -, isolated, -⟩ := hs
  obtain ⟨-, free, -, -⟩ := isolated hi
  exact free g

theorem pins_of_isolated (hi : s.mode = .isolated) (i : Fin 4) : s.pins[i] = none := by
  obtain ⟨-, -, isolated, -⟩ := hs
  obtain ⟨-, -, -, pins⟩ := isolated hi
  exact pins i

theorem wayAt_of_isolated (hi : s.mode = .isolated) (l : Loc) : s.wayAt l = .i := by
  obtain ⟨-, -, isolated, -⟩ := hs
  obtain ⟨invalid, -, -, -⟩ := isolated hi
  by_cases h : readSet s.dir l.set = DirSet.reset
  · rw [State.wayAt, h]
    exact replicate_get ..
  · exact invalid _ (mem_of_readSet_ne h) l.way

/-- A response or a recall waits only while the far link is UP (R169). -/
theorem farLink_of_waiting (h : s.respCh ≠ [] ∨ s.recallQueue ≠ []) : s.farLink = .up := by
  cases hf : s.farLink with
  | up => rfl
  | down =>
    obtain ⟨-, empty, -, -⟩ := hs
    obtain ⟨-, -, hresp, hqueue, -⟩ := empty hf
    simp [hresp, hqueue] at h

end law

section work

variable (s : State) (q : Request) (p : Packet)

theorem keepsMode_emit (v : NearPacket) : KeepsMode s (s.emit v) := .of_same rfl rfl

theorem keepsMode_answer (st : RespStatus) : KeepsMode s (s.answer q st) := .of_same rfl rfl

theorem keepsMode_reply (st : MgmtStatus) (f : ReplyFields) : KeepsMode s (s.reply p st f) := .of_same rfl rfl

theorem keepsMode_takeHead (rest : List Packet) : KeepsMode s (s.takeHead p rest) := .of_same rfl rfl

/-! ### Admission -/

/-- What the watch check hands on, or keeps, has counted, captured or held the request, or answered it. -/
theorem keepsMode_watchCheck {t : State} (h : s.watchCheck q = .pass t ∨ s.watchCheck q = .stopped t) :
    KeepsMode s t := by
  have captured (slot) : KeepsMode s ((s.countHits q).captureRequest q (s.matching q) slot) := by
    unfold State.captureRequest
    split <;> exact .of_same rfl rfl
  unfold State.watchCheck at h
  dsimp only at h
  split at h
  · split at h <;> simp only [reduceCtorEq, WatchOutcome.stopped.injEq, false_or] at h <;> subst h
    · exact (captured _).trans (.of_same rfl rfl)
    · exact (captured _).trans (keepsMode_answer ..)
  · split at h <;> simp only [reduceCtorEq, WatchOutcome.pass.injEq, or_false] at h <;> subst h
    · exact captured _
    · exact .of_same rfl rfl

/-- A request in ISOLATED is answered, no more (R13). -/
theorem keepsMode_admitFromMode : KeepsMode s (s.admitFromMode q) := by
  unfold State.admitFromMode
  split
  · exact keepsMode_answer ..
  · next ho => exact (within_windowCheck s q).keepsMode (windowCheck_recallCh s q) fun _ hi => by simp [ho] at hi

theorem keepsMode_admitPacket : KeepsMode s (s.admitPacket p) := by
  unfold State.admitPacket State.admitRequest
  split
  · split
    · exact keepsMode_answer ..
    · split
      · next h => exact (keepsMode_watchCheck s _ (.inl h)).trans (keepsMode_admitFromMode ..)
      · next h => exact keepsMode_watchCheck s _ (.inr h)
  · exact keepsMode_emit ..

theorem keepsMode_takeRequest (k : RequestKind) : KeepsMode s (s.takeRequest k) := by
  unfold State.takeRequest
  split
  · split
    · exact (keepsMode_takeHead ..).trans (keepsMode_admitPacket ..)
    · exact .refl s
  · exact .refl s

/-! ### Responses, recalls, expiries and visits -/

/-- A response that meets no entry but FREE ones is discarded (R67, condition 1). -/
theorem respond_of_free {s : State} (h : ∀ g : Tag, s.txns[g] = .free) (p : Packet)
    (f : State → Tag → Txn → List Byte → Option State) : s.respond p f = s.raiseFarProtocolTag (respTagByte p) := by
  unfold State.respond
  split
  · rfl
  · next g _ => rw [h g]

theorem keepsMode_takeResponse {f : State → Tag → Txn → List Byte → Option State} (hf : AppliesApart f)
    (wanted : Packet → Bool) : KeepsMode s (s.takeResponse wanted f) := by
  have within := within_takeResponse (fun s g t payload u h => (hf s g t payload u h).1) s wanted
  refine within.keepsMode (takeResponse_recallCh hf s wanted) fun hs hi => ?_
  have free := txns_of_isolated hs hi
  unfold State.takeResponse
  split
  · next p rest hr =>
    split
    · rw [respond_of_free (s := { s with respCh := rest }) free]
      refine (KeepsMode.of_up (farLink_of_waiting hs (.inl (by simp [hr]))) ?_).form hs
      rfl
    · exact hs
  · exact hs

/-- A recall in ISOLATED is acknowledged NOT_HELD, no more (R100). -/
theorem keepsMode_takeRecall (k : RecallKind) : KeepsMode s (s.takeRecall k) := by
  refine (within_takeRecall s k).keepsMode (takeRecall_recallCh s k) fun hs hi => ?_
  unfold State.takeRecall
  split
  · next r rest hr =>
    split
    · dsimp only
      split
      · refine (KeepsMode.of_up (farLink_of_waiting hs (.inr (by simp [hr]))) ?_).form hs
        rfl
      · next ho => simp [hi] at ho
    · exact hs
  · exact hs

theorem linePart_examineRecall : (s.examineRecall p).linePart = s.linePart := by
  unfold State.examineRecall State.checkRecall
  dsimp only
  repeat' split
  all_goals rfl

/-- The examination of an arrived recall: the recall channel is empty again (R93; log 7). -/
theorem keepsMode_recallArrival {t : State} (h : exec (.recallArrival p) s = .next t) : KeepsMode s t := by
  by_cases hu : s.farLink = .up
  · have within : Within s t := by
      cases h
      rw [if_pos hu]
      exact (within_blocks s ..).trans (within_examineRecalls _)
    refine ⟨within.mode, within.farLink, fun hs => ?_⟩
    obtain ⟨-, -, -, channel⟩ := id hs
    rw [exec_recallArrival hu channel] at h
    cases h
    exact (KeepsMode.of_up hu (linePart_examineRecall ..)).form hs
  · cases h
    rw [if_neg hu]
    exact .refl s

theorem keepsMode_expireTxn (g : Tag) : KeepsMode s (s.expireTxn g) :=
  (within_expireTxn s g).keepsMode (expireTxn_recallCh s g) fun hs hi => by
    have idle : s.expireTxn g = s := Host.Outcome.next.inj (expireTxn_idle (.inl (txns_of_isolated hs hi g)))
    rwa [idle]

theorem keepsMode_expirePin (i : Fin 4) : KeepsMode s (s.expirePin i) :=
  (within_expirePin s i).keepsMode (expirePin_recallCh s i) fun hs hi => by
    rwa [expirePin_notDue (by simp [pins_of_isolated hs hi])]

theorem keepsMode_endScan : KeepsMode s s.endScan := by
  rw [endScan_eq, completeDrain_eq]
  split <;> exact .of_same rfl rfl

theorem keepsMode_advanceCursor : KeepsMode s s.advanceCursor := by
  unfold State.advanceCursor
  dsimp only
  split
  · exact .of_same rfl rfl
  · split
    · exact .of_same rfl rfl
    · refine KeepsMode.trans ?_ (keepsMode_endScan _)
      exact .of_same rfl rfl

/-- A visit in ISOLATED passes over its way, which is I and under no pin (R143, R144). -/
theorem keepsMode_visit : KeepsMode s s.visit := by
  refine (within_visit s).keepsMode (visit_recallCh s) fun hs hi => ?_
  have unpinned (l : Loc) : s.activePinAt l = none := lowest_eq_none.2 fun i => by simp [pins_of_isolated hs hi]
  unfold State.visit
  split
  · split
    · rw [visitWay_passed (unpinned _) (.inl (wayAt_of_isolated hs hi _))]
      exact (keepsMode_advanceCursor s).form hs
    · exact hs
  · exact hs

end work

end Sys2Proof.Machine
end

section
/-! SUPPORT. What each command does to the device mode and the two links, and the laws that follow (R16, R17, R166, R169,
R171). -/

namespace Sys2Proof.Machine

open Sys2Proof.Safety

/-! ### The bulk events -/

section events

variable (s : State)

/-- The emptying of the ingress queue changes the requester port alone (R17). -/
theorem resetIngress_port : ∃ credits egress,
    s.resetIngress = { s with ingress := [], credits := credits, egress := egress } := by
  have taken (t : State) (p : Packet) (ht : t.ingress = []) : ∃ credits egress,
      (t.takeHead p []).answerReset p = { t with credits := credits, egress := egress } := by
    unfold State.answerReset
    split
    · exact ⟨_, _, by rw [← ht]; rfl⟩
    · exact ⟨_, _, by rw [← ht]; rfl⟩
  have fold (ps : List Packet) (t : State) (ht : t.ingress = []) : ∃ credits egress,
      ps.foldl (fun s p => (s.takeHead p []).answerReset p) t = { t with credits := credits, egress := egress } := by
    induction ps generalizing t with
    | nil => exact ⟨_, _, rfl⟩
    | cons p ps ih =>
      obtain ⟨c, e, h⟩ := taken t p ht
      rw [List.foldl_cons, h]
      exact ih _ ht
  exact fold s.ingress { s with ingress := [] } rfl

/-- A traffic reset leaves the blocks empty that are empty in ISOLATED (R172). -/
theorem keepsMode_trafficReset : KeepsMode s s.trafficReset := by
  obtain ⟨credits, egress, hq⟩ := resetIngress_port s
  unfold State.trafficReset
  simp only [hq, resetHolds_eq, answerAll_eq, ackAll_eq, stopDrain_eq]
  refine ⟨rfl, rfl, fun ⟨up, empty, isolated, channel⟩ => ⟨up, fun hd => ?_, fun hi => ?_, channel⟩⟩
  · obtain ⟨hr, ha, hp, -, -⟩ := empty hd
    refine ⟨hr, ?_, hp, rfl, rfl⟩
    simpa [ackChAfter, show s.farLink = .down from hd] using ha
  · obtain ⟨-, free, -, -⟩ := isolated hi
    refine ⟨by simp [AllInvalid], fun g => ?_, replicate_get none, replicate_get none⟩
    rw [mapTable_get, show s.txns[g] = .free from free g]
    rfl

/-- The loss of the far link leaves the part ISOLATED and empty (R169). -/
theorem modeForm_loseFarLink : ModeForm s.loseFarLink := by
  rw [loseFarLink_eq]
  refine ⟨nofun, fun _ => ⟨rfl, rfl, rfl, rfl, rfl⟩, fun _ => ⟨?_, ?_, ?_, ?_⟩, rfl⟩
  · intro e he w
    obtain ⟨d, -, rfl⟩ := List.mem_map.1 (List.mem_of_mem_filter he)
    exact replicate_get ..
  · exact replicate_get _
  · exact replicate_get _
  · exact replicate_get _

/-- A held record ends: there is none in ISOLATED (R102, R166). -/
theorem keepsMode_endPin {i : Fin 4} {v : Pin} (hv : s.pins[i] = some v) (o : Option RecallRecord) :
    KeepsMode s (s.endPin i o) :=
  (within_endPin s i o).keepsMode (endPin_recallCh s i o) fun hs hi => by simp [pins_of_isolated hs hi] at hv

theorem keepsMode_clearPin (i : Fin 4) : KeepsMode s (s.clearPin i) := by
  unfold State.clearPin
  split
  · next hv => exact keepsMode_endPin s hv _
  · exact .refl s

/-- The waiters and the WAITING pins go at the loss of the near link (R174). -/
theorem keepsMode_nearLost : KeepsMode s s.nearLost := by
  refine ⟨rfl, rfl, fun ⟨up, empty, isolated, channel⟩ => ⟨up, empty, fun hi => ?_, channel⟩⟩
  obtain ⟨invalid, free, buffer, pins⟩ := isolated hi
  refine ⟨invalid, fun g => ?_, buffer, fun i => ?_⟩
  · rw [show s.nearLost.txns[g] = TxnEntry.dropWaiters s.txns[g] from mapTable_get .., free g]
    rfl
  · rw [nearLost_pins, pins i]
    rfl

theorem keepsMode_loseNearLink : KeepsMode s s.loseNearLink := by
  have pins : KeepsMode s.nearLost s.nearLost.clearPins := KeepsMode.foldl keepsMode_clearPin ..
  rw [loseNearLink_eq]
  generalize s.nearLost.clearPins = u at pins
  exact ((keepsMode_nearLost s).trans pins).trans (.of_same rfl rfl)

theorem keepsMode_takeNotice : KeepsMode s s.takeNotice := by
  unfold State.takeNotice
  split <;> exact .of_same rfl rfl

theorem keepsMode_endInterval : KeepsMode s s.endInterval := by
  unfold State.endInterval
  split
  · split
    · exact .trans (t := { s with noticeInterval := none }) (.of_same rfl rfl) (keepsMode_takeNotice _)
    · exact .refl s
  · exact .refl s

/-- The end of a microsecond (R183). -/
theorem keepsMode_tick : KeepsMode s s.tick := by
  have entries := KeepsMode.foldl keepsMode_expireTxn (List.finRange 32) s
  have records := KeepsMode.foldl keepsMode_expirePin (List.finRange 4)
    ((List.finRange 32).foldl State.expireTxn s)
  have due : KeepsMode s s.expireDue := (entries.trans records).trans (keepsMode_endInterval _)
  unfold State.tick
  generalize s.expireDue = t at due ⊢
  exact due.trans (.of_same rfl rfl)

theorem modeForm_reset : ModeForm State.reset :=
  ⟨nofun, fun _ => ⟨rfl, rfl, rfl, rfl, rfl⟩,
    fun _ => ⟨by simp [AllInvalid, State.reset], replicate_get _, replicate_get _, replicate_get _⟩, rfl⟩

end events

/-! ### The executions of the management commands -/

section runs

variable (s : State) (p : Packet)

/-- The commands that work on the tables, the captures, the hold slots or the drain record alone. -/
theorem keepsMode_runTables {run : State → Packet → State}
    (h : run ∈ [runReadWindow, runReadWatch, runReadConfig, runWriteWindow, runWriteWatch, runWriteConfig, runDrain,
      runPopCapture, runDiscardHold]) : KeepsMode s (run s p) := by
  simp only [List.mem_cons, List.not_mem_nil, or_false] at h
  obtain rfl | rfl | rfl | rfl | rfl | rfl | rfl | rfl | rfl := h
  · unfold runReadWindow; (repeat' split) <;> exact .of_same rfl rfl
  · unfold runReadWatch; (repeat' split) <;> exact .of_same rfl rfl
  · unfold runReadConfig; split <;> exact .of_same rfl rfl
  · unfold runWriteWindow; (repeat' split) <;> exact .of_same rfl rfl
  · unfold runWriteWatch; (repeat' split) <;> exact .of_same rfl rfl
  · unfold runWriteConfig; (repeat' split) <;> exact .of_same rfl rfl
  · unfold runDrain; (repeat' split) <;> exact .of_same rfl rfl
  · unfold runPopCapture; split <;> exact .of_same rfl rfl
  · unfold runDiscardHold; (repeat' split) <;> exact .of_same rfl rfl

theorem keepsMode_runDrainAbort : KeepsMode s (runDrainAbort s p) := by
  unfold runDrainAbort
  split
  · exact keepsMode_reply ..
  · refine KeepsMode.trans ?_ ((keepsMode_endScan _).trans (keepsMode_reply ..))
    exact .of_same rfl rfl
  · exact .of_same rfl rfl

theorem keepsMode_runReleaseHold : KeepsMode s (runReleaseHold s p) := by
  unfold runReleaseHold
  split
  · next i _ =>
    split
    · exact .trans (t := { s with holds := upd s.holds i none }) (.of_same rfl rfl)
        ((keepsMode_admitFromMode ..).trans (keepsMode_reply ..))
    · exact keepsMode_reply ..
  · exact keepsMode_reply ..

theorem keepsMode_runBreakPin : KeepsMode s (runBreakPin s p) := by
  unfold runBreakPin
  split
  · split
    · next hv =>
      split
      · exact (keepsMode_endPin s hv _).trans (keepsMode_reply ..)
      · exact keepsMode_reply ..
    · exact keepsMode_reply ..
  · exact keepsMode_reply ..

theorem keepsMode_runTrafficReset : KeepsMode s (runTrafficReset s p) :=
  (keepsMode_trafficReset s).trans (keepsMode_reply ..)

end runs

/-! ### What a command does to the mode and the far link -/

/-- The ways in which a command can leave the mode and the far link. -/
inductive ModeStep : Instr → State → State → Prop
  /-- Mode and link stand. -/
  | kept {c : Instr} {s t : State} (h : KeepsMode s t) : ModeStep c s t
  /-- The part operates again, over an UP far link (R166, R171). -/
  | reattached {s t : State} (hf : t.farLink = s.farLink) (h : ModeForm s → ModeForm t) : ModeStep .reattach s t
  /-- The far link is lost, and the part is ISOLATED and empty (R169). -/
  | farLost {s t : State} (h : ModeForm t) : ModeStep .farLinkDown s t
  /-- The far link comes up (R171). -/
  | farRaised {s t : State} (hm : t.mode = s.mode) (h : ModeForm s → ModeForm t) : ModeStep .farLinkUp s t
  /-- The part is reset (R176). -/
  | reset {s t : State} (h : KeepsMode State.reset t) : ModeStep .coldReset s t

section commands

variable (s : State) (p : Packet)

/-- Taking a packet out of the ingress queue leaves mode and link as they are. -/
theorem ModeStep.of_takeHead {c : Instr} {s t : State} {p : Packet} {rest : List Packet}
    (h : ModeStep c (s.takeHead p rest) t) : ModeStep c s t := by
  have taken := keepsMode_takeHead s p rest
  cases h with
  | kept h => exact .kept (taken.trans h)
  | reattached hf h => exact .reattached hf (h ∘ taken.form)
  | farLost h => exact .farLost h
  | farRaised hm h => exact .farRaised hm (h ∘ taken.form)
  | reset h => exact .reset h

theorem modeStep_takeCommand {c : Instr} (wanted : Packet → Bool) {run : State → Packet → State}
    (hr : ∀ s p, ModeStep c s (run s p)) : ModeStep c s (s.takeCommand wanted run) := by
  unfold State.takeCommand
  split
  · next p rest _ =>
    split
    · refine .of_takeHead (p := p) (rest := rest) ?_
      unfold State.command
      split
      · exact .kept (keepsMode_reply ..)
      · split
        · exact .kept (keepsMode_reply ..)
        · exact hr ..
    · exact .kept (.refl s)
  · exact .kept (.refl s)

theorem modeStep_runReattach : ModeStep .reattach s (runReattach s p) := by
  unfold runReattach
  split
  · exact .kept (keepsMode_reply ..)
  · next hu =>
    refine .reattached rfl fun ⟨_, empty, _, channel⟩ => ?_
    exact ⟨fun _ => hu, empty, nofun, channel⟩

/-- What each command does to the mode and the far link. -/
theorem exec_modeStep {c : Instr} {t : State} (h : exec c s = .next t) : ModeStep c s t := by
  have request (k) : ModeStep c s (s.takeRequest k) := .kept (keepsMode_takeRequest s k)
  have response {f} (hf : AppliesApart f) (wanted) : ModeStep c s (s.takeResponse wanted f) :=
    .kept (keepsMode_takeResponse s hf wanted)
  have command {run} (hr : ∀ s p, KeepsMode s (run s p)) (wanted) : ModeStep c s (s.takeCommand wanted run) :=
    modeStep_takeCommand s wanted fun s p => .kept (hr s p)
  cases c with
  | packetArrival p =>
    cases h
    split
    · exact .kept (.of_same rfl rfl)
    · exact .kept (.refl s)
  | read => cases h; exact request _
  | write => cases h; exact request _
  | lockRead => cases h; exact request _
  | unlockWrite => cases h; exact request _
  | atomic => cases h; exact request _
  | unknownKindRequest =>
    simp only [exec, execUnknownKindRequest] at h
    split at h
    · split at h <;> cases h
      · exact .of_takeHead (.kept (keepsMode_emit ..))
      · exact .kept (.refl s)
    · cases h; exact .kept (.refl s)
  | responseArrival p =>
    cases h
    split
    · next hu => exact .kept (.of_up hu rfl)
    · exact .kept (.refl s)
  | grantSData => cases h; exact response applyGrantSData_apart _
  | grantXData => cases h; exact response applyGrantXData_apart _
  | grantX => cases h; exact response applyGrantX_apart _
  | wbDone => cases h; exact response applyWbDone_apart _
  | ucData => cases h; exact response applyUcData_apart _
  | ucDone => cases h; exact response applyUcDone_apart _
  | atomicResult => cases h; exact response applyAtomicResult_apart _
  | fail => cases h; exact response applyFail_apart _
  | unknownResponse => cases h; exact response applyNone_apart _
  | shortResponse =>
    simp only [exec, execShortResponse] at h
    split at h
    · next hr =>
      split at h <;> cases h
      · refine .kept ⟨rfl, rfl, fun hs => ?_⟩
        refine (KeepsMode.of_up (farLink_of_waiting hs (.inl (by simp [hr]))) ?_).form hs
        rfl
      · exact .kept (.refl s)
    · cases h; exact .kept (.refl s)
  | transactionExpiry g => cases h; exact .kept (keepsMode_expireTxn s g)
  | recallArrival p => exact .kept (keepsMode_recallArrival s p h)
  | downgrade => cases h; exact .kept (keepsMode_takeRecall s _)
  | surrender => cases h; exact .kept (keepsMode_takeRecall s _)
  | pinExpiry i => cases h; exact .kept (keepsMode_expirePin s i)
  | drainVisit => cases h; exact .kept (keepsMode_visit s)
  | readEntryWindow => cases h; exact command (fun s p => keepsMode_runTables s p (by simp)) _
  | readEntryWatch => cases h; exact command (fun s p => keepsMode_runTables s p (by simp)) _
  | readEntryConfig => cases h; exact command (fun s p => keepsMode_runTables s p (by simp)) _
  | writeEntryWindow => cases h; exact command (fun s p => keepsMode_runTables s p (by simp)) _
  | writeEntryWatch => cases h; exact command (fun s p => keepsMode_runTables s p (by simp)) _
  | writeEntryConfig => cases h; exact command (fun s p => keepsMode_runTables s p (by simp)) _
  | readStatus => cases h; exact command (fun s p => keepsMode_reply s p ..) _
  | probeLine => cases h; exact command (fun s p => keepsMode_reply s p ..) _
  | listPins => cases h; exact command (fun s p => keepsMode_reply s p ..) _
  | drain => cases h; exact command (fun s p => keepsMode_runTables s p (by simp)) _
  | drainAbort => cases h; exact command keepsMode_runDrainAbort _
  | popCapture => cases h; exact command (fun s p => keepsMode_runTables s p (by simp)) _
  | releaseHold => cases h; exact command keepsMode_runReleaseHold _
  | discardHold => cases h; exact command (fun s p => keepsMode_runTables s p (by simp)) _
  | breakPin => cases h; exact command keepsMode_runBreakPin _
  | trafficReset => cases h; exact command keepsMode_runTrafficReset _
  | reattach => cases h; exact modeStep_takeCommand s _ modeStep_runReattach
  | noticeTake => cases h; exact .kept (keepsMode_takeNotice s)
  | noticeIntervalEnd => cases h; exact .kept (keepsMode_endInterval s)
  | egressDeparture =>
    simp only [exec, execEgressDeparture] at h
    split at h <;> cases h
    · exact .kept (.of_same rfl rfl)
    · exact .kept (.refl s)
  | farPacketDeparture ch =>
    simp only [exec, execFarPacketDeparture] at h
    split at h
    · next hu =>
      split at h <;> cases h
      · exact .kept (.of_up hu rfl)
      · exact .kept (.refl s)
    · next hu =>
      split at h <;> cases h
      · exact .kept (.of_up hu rfl)
      · exact .kept (.refl s)
    · cases h; exact .kept (.refl s)
  | nearLinkDown =>
    simp only [exec, execNearLinkDown] at h
    split at h <;> cases h
    · exact .kept (keepsMode_loseNearLink s)
    · exact .kept (.refl s)
  | nearLinkUp =>
    simp only [exec, execNearLinkUp] at h
    split at h <;> cases h
    · exact .kept (.of_same rfl rfl)
    · exact .kept (.refl s)
  | farLinkDown =>
    simp only [exec, execFarLinkDown] at h
    split at h <;> cases h
    · exact .farLost (modeForm_loseFarLink s)
    · exact .kept (.refl s)
  | farLinkUp =>
    cases h
    exact .farRaised rfl fun ⟨_, _, isolated, channel⟩ => ⟨fun _ => rfl, nofun, isolated, channel⟩
  | coldReset =>
    cases h
    exact .reset (.of_same rfl rfl)
  | unknownCommand =>
    simp only [exec, execUnknownCommand] at h
    split at h
    · split at h <;> cases h
      · exact .of_takeHead (.kept (keepsMode_reply ..))
      · exact .kept (.refl s)
    · cases h; exact .kept (.refl s)

end commands

/-! ### The law of the mode, and what changes the mode and the links -/

/-- Settles O10: a command at the front by `exec_modeStep`, the empty queue by `keepsMode_tick`. -/
theorem stepsKeepIsolationEmpty : Obligations.StepsKeepIsolationEmpty := by
  intro s t hs h
  unfold step at h
  split at h
  · next c rest _ =>
    cases exec_modeStep _ h with
    | kept h => exact h.form hs
    | reattached hf h => exact h hs
    | farLost h => exact h
    | farRaised hm h => exact h hs
    | reset h => exact h.form modeForm_reset
  · rw [Host.Outcome.next.injEq] at h
    subst h
    exact (keepsMode_tick s).form hs

/-- The near link's state changes only by its own reports and a cold reset (R16, R17). -/
theorem PortStep.nearLink {c : Instr} {s t : State} (h : PortStep c s t) (hc : c ≠ .coldReset)
    (hd : c ≠ .nearLinkDown) (hu : c ≠ .nearLinkUp) : t.nearLink = s.nearLink := by
  cases h with
  | kept h => exact h.nearLink
  | taken hi h => exact h.nearLink
  | @emptied _ _ _ p rest hi h =>
    obtain ⟨credits, egress, e⟩ := resetIngress_port (s.takeHead p rest)
    rw [e] at h
    exact h.nearLink
  | arrived hn hc => rfl
  | interval hi h => exact h.nearLink
  | departed hn he h => exact h.nearLink
  | farDeparted hr ha h => exact h.nearLink
  | nearLost h => exact absurd rfl hd
  | nearRaised hn => exact absurd rfl hu
  | farLost h => exact h.nearLink
  | reset hn hi he hv hz => exact absurd rfl hc

/-- Settles O15: the near link by `exec_portStep`, the mode and the far link by `exec_modeStep`. -/
theorem modeAndLinksChangeOnlyByTheirEvents : Obligations.ModeAndLinksChangeOnlyByTheirEvents := by
  intro c s t h hc
  have near := (exec_portStep h).nearLink hc
  cases exec_modeStep s h with
  | kept h => exact ⟨fun _ _ => h.mode, near, fun _ _ => h.farLink⟩
  | reattached hf h => exact ⟨fun hr => absurd rfl hr, near, fun _ _ => hf⟩
  | farLost h => exact ⟨fun _ hd => absurd rfl hd, near, fun hd => absurd rfl hd⟩
  | farRaised hm h => exact ⟨fun _ _ => hm, near, fun _ hu => absurd rfl hu⟩
  | reset h => exact absurd rfl hc

end Sys2Proof.Machine
end

section
/-! SUPPORT. The sender check of the management unit (R151), and its inspections: READ_STATUS, PROBE_LINE and LIST_PINS
(R159 to R162). -/

namespace Sys2Proof.Machine

open Sys2Proof.Safety

/-- A command from outside the manager set is answered DENIED, whatever it would run (R151). -/
theorem command_of_outsider {s : State} {p : Packet} (hw : commandWellFormed p = true) (hm : ¬ FromManager s p)
    (run : State → Packet → State) : s.command p run = s.reply p .denied := by
  have outside : s.config.managers.getLsbD (senderOf p).val = false := Bool.eq_false_iff.2 hm
  rw [State.command, hw, outside]
  rfl

/-- Settles O53: the credit is returned, and then the sender check refuses the command. -/
theorem onlyManagersCommand : Obligations.OnlyManagersCommand := by
  intro s p rest hn hi hk hw hm
  rw [exec_management hn hi hk, command_of_outsider hw (by exact hm), reply_eq (by exact hn)]

/-! ### Tables of records that name a line -/

section naming

variable {α : Type} {n : Nat} {v : Vector (Option α) n} {line : α → Addr} {x : Addr}

/-- The record of lowest index that names the line. -/
theorem lowest_naming {i : Fin n} {a : α} (hi : v[i] = some a) (ha : line a = x)
    (hlow : ∀ j < i, ∀ b ∈ v[j], line b ≠ x) : lowest v (fun o => o.any fun b => line b == x) = some i := by
  refine lowest_eq_some.2 ⟨by simp only [hi, Option.any_some, ha, beq_self_eq_true], fun j hj => ?_⟩
  cases hb : v[j] with
  | none => rfl
  | some b => exact beq_eq_false_iff_ne.2 (hlow j hj b hb)

/-- No record names the line. -/
theorem lowest_naming_none (h : ∀ i : Fin n, ∀ b ∈ v[i], line b ≠ x) :
    lowest v (fun o => o.any fun b => line b == x) = none := by
  refine lowest_eq_none.2 fun i => ?_
  cases hb : v[i] with
  | none => rfl
  | some b => exact beq_eq_false_iff_ne.2 (h i b hb)

end naming

/-! ### The parts of a probe (R161) -/

section probe

variable {s : State} {x : Addr}

/-- The line's way, where the lookup finds one: in FILL or with a copy, at its place in the LRU order. -/
theorem probeResident_found {l : Loc} (hl : s.lookup x = some l) (hm : l.way ∈ (readSet s.dir l.set).lru) :
    ∃ v, s.probeResident x = some v ∧ v.loc = l ∧
      (readSet s.dir l.set).lru[v.lruPosition]? = some l.way ∧
      (s.wayAt l = .fill x → v.st = .fill) ∧ ∀ st data, s.wayAt l = .copy st x data → v.st = .copy st := by
  have holds : (s.wayAt l).line? = some x := (lookup_eq_some.1 hl).2.1
  obtain ⟨st, hst⟩ : ∃ st, (s.wayAt l).residentState = some st := by
    cases hw : s.wayAt l with
    | i => simp [hw, Way.line?] at holds
    | fill y => exact ⟨_, rfl⟩
    | copy st y data => exact ⟨_, rfl⟩
  have found : lruPosition (readSet s.dir l.set).lru l.way < (readSet s.dir l.set).lru.length :=
    List.findIdx_lt_length_of_exists ⟨l.way, hm, beq_self_eq_true _⟩
  have place : (readSet s.dir l.set).lru[lruPosition (readSet s.dir l.set).lru l.way] = l.way :=
    beq_iff_eq.1 (List.findIdx_getElem (w := found))
  refine ⟨{ st := st, loc := l, lruPosition := lruPosition (readSet s.dir l.set).lru l.way }, ?_, rfl, ?_, ?_, ?_⟩
  · simp only [State.probeResident, hl, hst, Option.map_some]
  · exact List.getElem?_eq_some_iff.2 ⟨found, place⟩
  · intro hw
    simpa [hw, Way.residentState] using hst.symm
  · intro st' data hw
    simpa [hw, Way.residentState] using hst.symm

theorem probeResident_absent (hl : s.lookup x = none) : s.probeResident x = none := by
  simp only [State.probeResident, hl]

theorem probeEviction_found {i : Fin 4} {v : EvictionEntry} (hi : s.eb[i] = some v) (hv : v.line = x)
    (hlow : ∀ j < i, ∀ u ∈ s.eb[j], u.line ≠ x) : s.probeEviction x = some (i, v.origin) := by
  simp only [State.probeEviction, lowest_naming hi hv hlow, hi, Option.map_some]

theorem probeEviction_absent (h : ∀ i : Fin 4, ∀ v ∈ s.eb[i], v.line ≠ x) : s.probeEviction x = none := by
  simp only [State.probeEviction, lowest_naming_none h]

theorem probePin_found {i : Fin 4} {v : Pin} (hi : s.pins[i] = some v) (hv : v.line = x)
    (hlow : ∀ j < i, ∀ u ∈ s.pins[j], u.line ≠ x) : s.probePin x = some (i, v.st) := by
  simp only [State.probePin, lowest_naming hi hv hlow, hi, Option.map_some]

theorem probePin_absent (h : ∀ i : Fin 4, ∀ v ∈ s.pins[i], v.line ≠ x) : s.probePin x = none := by
  simp only [State.probePin, lowest_naming_none h]

/-- The entry is ISSUED for the line: a fetch, an upgrade or a WRITEBACK. -/
def TxnEntry.names (x : Addr) : TxnEntry → Bool
  | .issued t => t.kind.line? == some x
  | _ => false

theorem names_eq_false {e : TxnEntry} (h : ∀ t ∈ TxnEntry.txn? e, t.kind.line? ≠ some x) : e.names x = false := by
  cases e with
  | issued t => exact beq_eq_false_iff_ne.2 (h t rfl)
  | _ => rfl

theorem probeTxn_found {g : Tag} {t : Txn} (hg : s.txns[g] = .issued t) (hk : t.kind.line? = some x)
    (hlow : ∀ h < g, ∀ u ∈ TxnEntry.txn? s.txns[h], u.kind.line? ≠ some x) : s.probeTxn x = some (g, t.kind) := by
  have low : lowest s.txns (TxnEntry.names x) = some g :=
    lowest_eq_some.2 ⟨by simp [hg, TxnEntry.names, hk], fun j hj => names_eq_false (hlow j hj)⟩
  unfold State.probeTxn
  split
  · next k hs =>
    obtain rfl : k = g := Option.some.inj (hs.symm.trans low)
    simp only [hg]
  · next hs => cases hs.symm.trans low

theorem probeTxn_absent (h : ∀ g : Tag, ∀ t ∈ TxnEntry.txn? s.txns[g], t.kind.line? ≠ some x) :
    s.probeTxn x = none := by
  have low : lowest s.txns (TxnEntry.names x) = none := lowest_eq_none.2 fun g => names_eq_false (h g)
  unfold State.probeTxn
  split
  · next hs => cases hs.symm.trans low
  · rfl

/-! The unacknowledged recall that names the line: R92 leaves at most one. -/

/-- The one recall of a list that names the line. -/
theorem find_recall {rs : List RecallRecord} (hn : (rs.map RecallRecord.line).Nodup) {v : RecallRecord} (hv : v ∈ rs)
    (hx : v.line = x) : rs.find? (fun r => r.line == x) = some v := by
  cases hf : rs.find? fun r => r.line == x with
  | none => exact absurd hx (by simpa using List.find?_eq_none.1 hf v hv)
  | some r =>
    have hr : r.line = x := by simpa using List.find?_some hf
    exact congrArg some (List.inj_on_of_nodup_map hn (List.mem_of_find?_eq_some hf) hv (hr.trans hx.symm))

theorem find_recall_none {rs : List RecallRecord} (h : ∀ r ∈ rs, r.line ≠ x) :
    rs.find? (fun r => r.line == x) = none :=
  List.find?_eq_none.2 fun r hr => by simpa using h r hr

/-- A queued, a noted and a deferred recall are each reported in their place (R161). -/
theorem probeRecall_cases (hn : (s.unacknowledged.map RecallRecord.line).Nodup) :
    (∀ v ∈ s.recallQueue, v.line = x → s.probeRecall x = some (v, .queued)) ∧
    (∀ v ∈ s.notedRecalls, v.line = x → s.probeRecall x = some (v, .noted)) ∧
    (∀ v ∈ s.deferredRecalls, v.line = x → s.probeRecall x = some (v, .deferred)) ∧
    ((∀ v ∈ s.unacknowledged, v.line ≠ x) → s.probeRecall x = none) := by
  have elsewhere {as bs : List RecallRecord}
      (h : ∀ a ∈ as.map RecallRecord.line, ∀ b ∈ bs.map RecallRecord.line, a ≠ b) {v : RecallRecord} (hv : v ∈ bs)
      (hx : v.line = x) (r : RecallRecord) (hr : r ∈ as) : r.line ≠ x :=
    fun he => h _ (List.mem_map_of_mem hr) _ (List.mem_map_of_mem hv) (he.trans hx.symm)
  rw [State.unacknowledged, List.map_append, List.nodup_append] at hn
  obtain ⟨others, oneDeferred, apart'⟩ := hn
  rw [List.map_append, List.nodup_append] at others
  obtain ⟨oneQueued, oneNoted, apart⟩ := others
  unfold State.probeRecall
  refine ⟨fun v hv hx => ?_, fun v hv hx => ?_, fun v hv hx => ?_, fun h => ?_⟩
  · simp only [find_recall oneQueued hv hx]
  · simp only [find_recall_none (elsewhere apart hv hx), find_recall oneNoted hv hx]
  · have before := elsewhere apart' hv hx
    simp only [List.mem_append, or_imp, forall_and] at before
    simp only [find_recall_none before.1, find_recall_none before.2, find_recall oneDeferred hv hx, Option.map_some]
  · simp only [State.unacknowledged, List.mem_append, or_imp, forall_and] at h
    obtain ⟨⟨queued, noted⟩, deferred⟩ := h
    simp only [find_recall_none queued, find_recall_none noted, find_recall_none deferred, Option.map_none]

/-- A probe reports the line of the byte address as the blocks hold it (R161). -/
theorem probeReports (s : State) (a : Addr) : ProbeReports s (lineOf a) (s.probe a) :=
  ⟨rfl, probeResident_absent, fun _ => probeResident_found, fun _ _ => probeEviction_found, probeEviction_absent,
    fun _ _ => probeTxn_found, probeTxn_absent, fun _ _ => probePin_found, probePin_absent, probeRecall_cases⟩

end probe

/-! ### The status record and the pin list (R160, R162) -/

theorem isIssued_eq : TxnEntry.isIssued = fun e => (TxnEntry.txn? e).isSome := by
  funext e
  cases e <;> rfl

theorem isOrphaned_eq : TxnEntry.isOrphaned = fun e => e == .orphaned := by
  funext e
  cases e <;> rfl

/-! The credit's return changes nothing that an inspection reads. -/

theorem credited_status (s : State) (p : Packet) (rest : List Packet) : (credited s p rest).status = s.status := rfl

theorem credited_probe (s : State) (p : Packet) (rest : List Packet) (a : Addr) :
    (credited s p rest).probe a = s.probe a := rfl

theorem credited_pinList (s : State) (p : Packet) (rest : List Packet) : (credited s p rest).pinList = s.pinList := rfl

section commands

variable {s : State} {p : Packet} {rest : List Packet} (hm : FromManager s p)
include hm

theorem exec_readStatus (h : TakesCommand s p rest 3) : exec .readStatus s =
    .next (replying (credited s p rest) p .ok (.status s.status)) := by
  have hc : (commandByte p).toNat = 3 := by rw [commandByte_of_takes h]; rfl
  have hn : (credited s p rest).nearLink = .up := h.1
  simpa only [managementStep, managementRun, hc, runReadStatus, reply_eq hn, credited_status] using exec_command h hm

theorem exec_probeLine (h : TakesCommand s p rest 4) : exec .probeLine s =
    .next (replying (credited s p rest) p .ok (.probe (s.probe (addrAt (payloadOf p) 0)))) := by
  have hc : (commandByte p).toNat = 4 := by rw [commandByte_of_takes h]; rfl
  have hn : (credited s p rest).nearLink = .up := h.1
  simpa only [managementStep, managementRun, hc, runProbeLine, reply_eq hn, credited_probe] using exec_command h hm

theorem exec_listPins (h : TakesCommand s p rest 5) : exec .listPins s =
    .next (replying (credited s p rest) p .ok (.pins s.pinList)) := by
  have hc : (commandByte p).toNat = 5 := by rw [commandByte_of_takes h]; rfl
  have hn : (credited s p rest).nearLink = .up := h.1
  simpa only [managementStep, managementRun, hc, runListPins, reply_eq hn, credited_pinList] using exec_command h hm

end commands

/-- Settles O56: the status by the two counts of entries, the probe by `probeReports`, the pins record by record. -/
theorem inspectionsReportTheState : Obligations.InspectionsReportTheState := by
  intro s p rest hm
  refine ⟨fun h => ?_, fun h => ⟨_, probeReports s _, exec_probeLine hm h⟩, fun h => ?_⟩
  · rw [exec_readStatus hm h, State.status, isIssued_eq, isOrphaned_eq]
  · rw [exec_listPins hm h]
    rfl

end Sys2Proof.Machine
end

section
/-! SUPPORT. The cold reset: every block's reset value (R176), and the laws that the reset state meets. -/

namespace Sys2Proof.Machine

open Sys2Proof.Safety

/-! ### What the reset state holds -/

/-- Every set reads as the reset set (R54). -/
theorem readSet_reset (i : Fin 1024) : readSet State.reset.dir i = DirSet.reset := rfl

theorem wayAt_reset (loc : Loc) : State.reset.wayAt loc = .i := replicate_get ..

/-- Every tag is FREE (R88). -/
theorem txns_reset (g : Tag) : State.reset.txns[g] = .free := replicate_get ..

theorem eb_reset (i : Fin 4) : State.reset.eb[i] = none := replicate_get ..

theorem pins_reset (i : Fin 4) : State.reset.pins[i] = none := replicate_get ..

/-! The laws speak of the listed sets, the ISSUED entries, the buffered lines and the pins: the reset state has none. -/

theorem not_listed_reset {e : Fin 1024 × DirSet} : e ∉ State.reset.dir := List.not_mem_nil

theorem not_issued_reset {g : Tag} {t : Txn} : t ∉ TxnEntry.txn? State.reset.txns[g] := by
  rw [txns_reset]
  exact nofun

theorem not_buffered_reset {i : Fin 4} {v : EvictionEntry} : v ∉ State.reset.eb[i] := by
  rw [eb_reset]
  exact nofun

theorem not_pinned_reset {i : Fin 4} {p : Pin} : p ∉ State.reset.pins[i] := by
  rw [pins_reset]
  exact nofun

/-- No recall is unacknowledged: none is queued, noted or deferred (R92). -/
theorem unacknowledged_reset : State.reset.unacknowledged = [] := by
  have noted : State.reset.notedRecalls = [] := by simp [State.notedRecalls, State.reset, TxnEntry.noted?]
  have deferred : State.reset.deferredRecalls = [] := by simp [State.deferredRecalls, State.reset]
  rw [State.unacknowledged, noted, deferred]
  rfl

/-- Settles O4: the blocks that are tables entry by entry, the directory set by set, the others by their values. -/
theorem coldResetSetsEveryBlock : Obligations.ColdResetSetsEveryBlock := by
  intro s
  refine ⟨_, rfl, ?port, ?watchUnit, ?windowTable, ?directory, ?transactions, ⟨rfl, rfl, rfl, rfl, rfl⟩,
    ?recallUnit, rfl, ⟨rfl, rfl, rfl⟩, rfl, rfl, rfl⟩
  case port => exact ⟨rfl, replicate_get _, rfl, rfl, rfl⟩
  case watchUnit => exact ⟨replicate_get _, rfl, rfl, replicate_get _⟩
  case windowTable => exact replicate_get _
  case directory => exact fun i => ⟨fun w => wayAt_reset ⟨i, w⟩, congrArg DirSet.lru (readSet_reset i)⟩
  case transactions => exact ⟨txns_reset, eb_reset⟩
  case recallUnit => exact ⟨rfl, rfl, pins_reset⟩

/-! ### The laws at reset -/

theorem directoryForm_reset : DirectoryForm State.reset :=
  ⟨dirWf_reset, fun _ he => absurd he not_listed_reset⟩

theorem creditForm_reset : CreditForm State.reset :=
  (creditForm_down rfl).2 ⟨rfl, rfl, rfl, replicate_get 0⟩

theorem pinForm_reset : PinForm State.reset := fun _ _ _ hp => absurd hp not_pinned_reset

/-- The configuration is within its ranges, and no timer runs. -/
theorem timerForm_reset : TimerForm State.reset := by
  obtain ⟨-, -, inRange⟩ := tablesForm_reset
  refine ⟨inRange, fun g d hd => ?_, fun _ _ hp => absurd hp not_pinned_reset, nofun⟩
  rw [txns_reset] at hd
  exact absurd hd nofun

/-- Nothing is listed, ISSUED, buffered, pinned or unacknowledged, and no way is in FILL, UPGRADE or CLEANING. -/
theorem coherent_reset : Coherent State.reset where
  form := dirWf_reset
  inSet _ he := absurd he not_listed_reset
  oneWay _ he := absurd he not_listed_reset
  oneBuffer _ _ hv := absurd hv not_buffered_reset
  bufferOwned _ _ hv := absurd hv not_buffered_reset
  dropBuffered _ _ ht := absurd ht not_issued_reset
  onePerLine _ _ _ ht := absurd ht not_issued_reset
  kindInSet _ _ ht := absurd ht not_issued_reset
  entryHasWay _ _ ht := absurd ht not_issued_reset
  wayHasEntry loc hw := by
    rw [wayAt_reset] at hw
    exact absurd hw nofun
  cleaningHasEntry loc x hx := by
    rw [wayAt_reset] at hx
    exact absurd hx nofun
  keepState _ _ ht := absurd ht not_issued_reset
  onePin := pinForm_reset
  activeHolds _ _ hp := absurd hp not_pinned_reset
  oneActive _ _ _ hp := absurd hp not_pinned_reset
  waitingListed _ _ hp := absurd hp not_pinned_reset
  listedWaits _ _ ht := absurd ht not_issued_reset
  listBounded _ _ ht := absurd ht not_issued_reset
  recallsCounted := by
    rw [unacknowledged_reset]
    exact ⟨rfl, Nat.zero_le 8⟩
  oneRecall := by
    rw [unacknowledged_reset]
    exact List.nodup_nil
  notedInFill _ _ ht := absurd ht not_issued_reset

/-- Settles O5: the law of each block at reset, and coherence. -/
theorem resetMeetsTheLaws : Obligations.ResetMeetsTheLaws :=
  ⟨directoryForm_reset, creditForm_reset, captureForm_reset, noticeForm_reset, tablesForm_reset, modeForm_reset,
    pinForm_reset, drainForm_reset, timerForm_reset, coherent_reset⟩

end Sys2Proof.Machine
end

section
/-! SUPPORT. The 16 bytes of a table entry read back (R181): the bytes that R33, R130 and R157 refuse, and the entry that
bytes laid out as R181 says are read as. -/

namespace Sys2Proof.Machine

open Sys2Proof.Safety

/-! ### What is refused (R33, R130, R157) -/

theorem windowOf_eq_none (b : List Byte) : windowOf b = none ↔ refusedWindow b := by
  refine ⟨fun hn => ?_, windowOf_refused⟩
  obtain ⟨hr, -⟩ | ⟨-, e, he, -⟩ := windowOf_cases b
  · exact hr
  · rw [hn] at he; cases he

theorem watchOf_eq_none (b : List Byte) : watchOf b = none ↔ refusedWatch b := by
  refine ⟨fun hn => ?_, watchOf_refused⟩
  obtain ⟨hr, -⟩ | ⟨-, e, he, -⟩ := watchOf_cases b
  · exact hr
  · rw [hn] at he; cases he

theorem configOf_eq_none (b : List Byte) : configOf b = none ↔ refusedConfig b := by
  refine ⟨fun hn => ?_, configOf_refused⟩
  obtain ⟨hr, -⟩ | ⟨-, c, hc, -⟩ := configOf_cases b
  · exact hr
  · rw [hn] at hc; cases hc

/-! ### Codes read back (R181) -/

@[simp] theorem policyOf_code (p : Policy) : policyOf p.code = some p := by cases p <;> rfl

@[simp] theorem atomicModeOf_code (m : AtomicMode) : atomicModeOf m.code = some m := by cases m <;> rfl

@[simp] theorem watchActionOf_code (a : WatchAction) : watchActionOf a.code = some a := by cases a <;> rfl

@[simp] theorem defaultPolicyOf_code (p : DefaultPolicy) : defaultPolicyOf p.code = some p := by cases p <;> rfl

/-! ### A field read in the form in which the entries keep it (R177) -/

section fields

variable {b : List Byte} {n o : Nat} {f : List (Nat × Nat × Nat)}

theorem byteAt_of_layout (h : Layout b n f) {v : Nat} (hm : (o, 1, v) ∈ f) (hv : v < 256) :
    (byteAt b o).toNat = v := by
  rw [← fieldAt_one]
  exact h.2 _ hm (by simpa using hv)

theorem codeAt_of_layout (h : Layout b n f) {c : Byte} (hm : (o, 1, c.toNat) ∈ f) : byteAt b o = c :=
  BitVec.eq_of_toNat_eq (byteAt_of_layout h hm c.isLt)

theorem flagAt_of_layout (h : Layout b n f) {v : Bool} (hm : (o, 1, bitIf 0 v) ∈ f) :
    (byteAt b o).getLsbD 0 = v := by
  have hb : (byteAt b o).toNat = bitIf 0 v := byteAt_of_layout h hm (by cases v <;> decide)
  rw [← BitVec.testBit_toNat, hb]
  cases v <;> rfl

theorem addrAt_of_layout (h : Layout b n f) {a : Addr} (hm : (o, 6, a.toNat) ∈ f) : addrAt b o = a := by
  have hf : fieldAt b o 6 = a.toNat := h.2 _ hm a.isLt
  rw [addrAt, hf, BitVec.ofNat_toNat, BitVec.setWidth_eq]

theorem setAt_of_layout (h : Layout b n f) {m : RequesterSet} (hm : (o, 2, m.toNat) ∈ f) : setAt b o = m := by
  have hf : fieldAt b o 2 = m.toNat := h.2 _ hm m.isLt
  rw [setAt, hf, BitVec.ofNat_toNat, BitVec.setWidth_eq]

end fields

/-! ### The entries read back (R181) -/

section entries

variable {b : List Byte}

/-- Bytes that hold a window entry within its ranges where R181 places its fields are read as that entry. -/
theorem windowOf_of_layout {e : WindowEntry} (hf : WindowForm e) (h : WindowLayout e b) : windowOf b = some e := by
  obtain ⟨hlow, hhigh, hbase⟩ := hf
  have exponent : (byteAt b 1).toNat = e.exponent := byteAt_of_layout h (by simp) (by omega)
  have valid : (byteAt b 0).getLsbD 0 = e.valid := flagAt_of_layout h (by simp)
  have policy : byteAt b 2 = e.policy.code := codeAt_of_layout h (by simp)
  have atomicMode : byteAt b 3 = e.atomicMode.code := codeAt_of_layout h (by simp)
  have base : addrAt b 4 = e.base := addrAt_of_layout h (by simp)
  have readMask : setAt b 10 = e.readMask := setAt_of_layout h (by simp)
  have writeMask : setAt b 12 = e.writeMask := setAt_of_layout h (by simp)
  have inRange : ¬ (e.exponent < 12 ∨ 38 < e.exponent) := by omega
  simp only [windowOf, not_aligned, exponent, valid, policy, atomicMode, base, readMask, writeMask, policyOf_code,
    atomicModeOf_code, if_neg inRange, if_neg (not_not.2 hbase)]

/-- Bytes that hold a watch entry within its ranges where R181 places its fields are read as that entry, its hit count
0 (R130). -/
theorem watchOf_of_layout {e : WatchEntry} (hf : WatchForm e) (h : WatchLayout e b) :
    watchOf b = some { e with hits := 0 } := by
  obtain ⟨hexp, hbase, hkinds, -⟩ := hf
  have hlt : e.kinds.toNat < 16 := e.kinds.isLt
  have hpos : e.kinds.toNat ≠ 0 := fun h0 => hkinds (BitVec.eq_of_toNat_eq h0)
  have exponent : (byteAt b 1).toNat = e.exponent := byteAt_of_layout h (by simp) (by omega)
  have enable : (byteAt b 0).getLsbD 0 = e.enable := flagAt_of_layout h (by simp)
  have kinds : (byteAt b 2).toNat = e.kinds.toNat := byteAt_of_layout h (by simp) (by omega)
  have action : byteAt b 3 = e.action.code := codeAt_of_layout h (by simp)
  have base : addrAt b 4 = e.base := addrAt_of_layout h (by simp)
  have mask : setAt b 10 = e.mask := setAt_of_layout h (by simp)
  have someKinds : ¬ (e.kinds.toNat = 0 ∨ 15 < e.kinds.toNat) := by omega
  simp only [watchOf, not_aligned, exponent, enable, kinds, action, base, mask, watchActionOf_code,
    if_neg (not_lt.2 hexp), if_neg (not_not.2 hbase), if_neg someKinds, BitVec.ofNat_toNat, BitVec.setWidth_eq]

/-- Bytes that hold a configuration record within its ranges where R181 places its fields are read as that record. -/
theorem configOf_of_layout {c : ConfigRecord} (hf : ConfigForm c) (h : ConfigLayout c b) : configOf b = some c := by
  obtain ⟨hfar, hfar', hpin, hpin', hmanagers⟩ := hf
  have ht : c.noticeTarget.val < 16 := c.noticeTarget.isLt
  have hn : c.noticeEnable.toNat < 128 := c.noticeEnable.isLt
  have policy : byteAt b 0 = c.defaultPolicy.code := codeAt_of_layout h (by simp)
  have target : (byteAt b 1).toNat = c.noticeTarget.val := byteAt_of_layout h (by simp) (by omega)
  have farTimeout : fieldAt b 2 2 = c.farTimeout := h.2 (2, 2, c.farTimeout) (by simp) (by dsimp only; omega)
  have pinTimeout : fieldAt b 4 2 = c.pinTimeout := h.2 (4, 2, c.pinTimeout) (by simp) (by dsimp only; omega)
  have enable : (byteAt b 6).toNat = c.noticeEnable.toNat := byteAt_of_layout h (by simp) (by omega)
  have managers : setAt b 8 = c.managers := setAt_of_layout h (by simp)
  have farInRange : ¬ (c.farTimeout < 16 ∨ 65535 < c.farTimeout) := by omega
  have pinInRange : ¬ (c.pinTimeout < 1 ∨ 1023 < c.pinTimeout) := by omega
  have someRequester : ¬ 15 < c.noticeTarget.val := by omega
  have someEnable : ¬ 127 < c.noticeEnable.toNat := by omega
  simp only [configOf, policy, target, farTimeout, pinTimeout, enable, managers, defaultPolicyOf_code,
    if_neg farInRange, if_neg pinInRange, if_neg someRequester, if_neg someEnable, if_neg hmanagers,
    BitVec.ofNat_toNat, BitVec.setWidth_eq, Fin.ofNat_val_eq_self]

end entries

/-- Settles O55: each entry's bytes have its layout, and bytes of that layout are read as the entry. -/
theorem tableEntriesRoundTrip : Obligations.TableEntriesRoundTrip :=
  ⟨fun b => ⟨windowOf_eq_none b, watchOf_eq_none b, configOf_eq_none b⟩,
    fun e hf => ⟨windowLayout e, windowOf_of_layout hf (windowLayout e)⟩,
    fun e hf => ⟨watchLayout e, watchOf_of_layout hf (watchLayout e)⟩,
    fun c hf => ⟨configLayout c, configOf_of_layout hf (configLayout c)⟩⟩

end Sys2Proof.Machine
end

section
/-! SUPPORT. Work that starts no timer: every deadline that runs afterwards ran before (R66, R115, R183). -/

namespace Sys2Proof.Machine

open Sys2Proof.Safety

/-! ### Deadlines that stand -/

/-- What the law of the timers reads beside the tables that hold deadlines, and the queue. -/
def State.clock (s : State) : Nat × List Instr × ConfigRecord × Option Nat :=
  (s.now, s.pending, s.config, s.noticeInterval)

/-- The clock stands, and every deadline that runs afterwards ran before, under the same tag or in the same record. -/
structure StartsNoTimer (s t : State) : Prop where
  clock : t.clock = s.clock
  entries : ∀ g : Tag, ∀ d ∈ TxnEntry.deadline? t.txns[g], d ∈ TxnEntry.deadline? s.txns[g]
  pins : ∀ i : Fin 4, ∀ p ∈ t.pins[i], ∀ d ∈ Pin.deadline? p, ∃ q ∈ s.pins[i], d ∈ Pin.deadline? q

theorem clock_eq {s t : State} : t.clock = s.clock ↔ t.now = s.now ∧ t.pending = s.pending ∧ t.config = s.config ∧
    t.noticeInterval = s.noticeInterval := by
  simp only [State.clock, Prod.mk.injEq]

theorem StartsNoTimer.now {s t : State} (h : StartsNoTimer s t) : t.now = s.now := (clock_eq.1 h.clock).1

theorem StartsNoTimer.of_same {s t : State} (hc : t.clock = s.clock) (ht : t.txns = s.txns) (hp : t.pins = s.pins) :
    StartsNoTimer s t :=
  ⟨hc, fun _ _ hd => ht ▸ hd, fun _ p hp' _ hd => ⟨p, hp ▸ hp', hd⟩⟩

theorem StartsNoTimer.refl (s : State) : StartsNoTimer s s := .of_same rfl rfl rfl

theorem StartsNoTimer.trans {s t u : State} (h : StartsNoTimer s t) (k : StartsNoTimer t u) : StartsNoTimer s u := by
  refine ⟨k.clock.trans h.clock, fun g d hd => h.entries g d (k.entries g d hd), fun i p hp d hd => ?_⟩
  obtain ⟨q, hq, hd⟩ := k.pins i p hp d hd
  exact h.pins i q hq d hd

/-- A step at a time over a list. -/
theorem StartsNoTimer.foldl {α : Type} {f : State → α → State} (h : ∀ s a, StartsNoTimer s (f s a)) (l : List α)
    (s : State) : StartsNoTimer s (l.foldl f s) := by
  induction l generalizing s with
  | nil => exact .refl s
  | cons a l ih => exact (h s a).trans (ih _)

section work

variable (s : State) (w : Waiter) (l : Loc) (x : Addr) (data : LineData) (r : RecallRecord) (q : Request) (g : Tag)
  (p : Packet) (i : Fin 4)

/-! ### The state's own updates -/

/-- An entry is filled anew with the deadline it has, or with none. -/
theorem startsNoTimer_putEntry {s : State} {g : Tag} {e : TxnEntry}
    (h : ∀ d ∈ TxnEntry.deadline? e, d ∈ TxnEntry.deadline? s.txns[g]) : StartsNoTimer s (s.putEntry g e) := by
  refine ⟨rfl, fun k d hd => ?_, fun _ p hp _ hd => ⟨p, hp, hd⟩⟩
  rw [State.putEntry, upd_get] at hd
  split at hd
  · next hgk => exact hgk ▸ h d hd
  · exact hd

/-- A pin record is filled anew with the deadline it has, or with none. -/
theorem startsNoTimer_putPin {s : State} {i : Fin 4} {o : Option Pin}
    (h : ∀ p ∈ o, ∀ d ∈ Pin.deadline? p, ∃ q ∈ s.pins[i], d ∈ Pin.deadline? q) : StartsNoTimer s (s.putPin i o) := by
  refine ⟨rfl, fun _ _ hd => hd, fun j p hp d hd => ?_⟩
  rw [State.putPin, upd_get] at hp
  split at hp
  · next hij => exact hij ▸ h p hp d hd
  · exact ⟨p, hp, hd⟩

theorem startsNoTimer_freePin : StartsNoTimer s (s.putPin i none) := startsNoTimer_putPin nofun

theorem startsNoTimer_releaseTag : StartsNoTimer s (s.releaseTag g) :=
  .trans (t := s.putEntry g .free) (startsNoTimer_putEntry nofun) (.of_same rfl rfl rfl)

theorem startsNoTimer_emit (v : NearPacket) : StartsNoTimer s (s.emit v) := .of_same rfl rfl rfl

theorem startsNoTimer_answer (st : RespStatus) : StartsNoTimer s (s.answer q st) := .of_same rfl rfl rfl

theorem startsNoTimer_reply (st : MgmtStatus) (f : ReplyFields) : StartsNoTimer s (s.reply p st f) :=
  .of_same rfl rfl rfl

theorem startsNoTimer_raise (k : NoticeKind) (d : NoticeDetail) : StartsNoTimer s (s.raise k d) :=
  .of_same rfl rfl rfl

theorem startsNoTimer_takeHead (rest : List Packet) : StartsNoTimer s (s.takeHead p rest) := .of_same rfl rfl rfl

/-! ### Waiters -/

theorem startsNoTimer_answerAll (ws : List Waiter) (st : RespStatus) : StartsNoTimer s (s.answerAll ws st) := by
  rw [answerAll_eq]
  refine ⟨rfl, fun _ _ hd => hd, fun i p hp d hd => ⟨p, ?_, hd⟩⟩
  rw [pinsWithout_get] at hp
  split at hp
  · exact absurd hp nofun
  · exact hp

theorem startsNoTimer_refuse : StartsNoTimer s (s.refuse w) := startsNoTimer_answerAll s [w] .retry

/-- A LOCK_READ that waits has no deadline yet (R114). -/
theorem startsNoTimer_recordWay : StartsNoTimer s (s.recordWay w l) := by
  unfold State.recordWay
  split
  · split
    · exact startsNoTimer_putPin fun p hp d hd => by cases hp; exact absurd hd nofun
    · exact .refl s
  · exact .refl s

/-- The reserved record is WAITING (R113). -/
theorem startsNoTimer_reservePin (o : Requester) : StartsNoTimer s (s.reservePin i o x) :=
  startsNoTimer_putPin fun p hp d hd => by cases hp; exact absurd hd nofun

/-! ### Recalls -/

/-- The entry that names a way is filled anew with the same deadline. -/
theorem startsNoTimer_putEntry_fetchOf {s : State} {l : Loc} {g : Tag} {t u : Txn} (h : s.fetchOf l = some (g, t))
    (hd : u.deadline = t.deadline) : StartsNoTimer s (s.putEntry g (.issued u)) := by
  obtain ⟨hg, -⟩ := fetchOf_eq_some.1 h
  refine startsNoTimer_putEntry fun d h => ?_
  rw [hg]
  exact (congrArg some hd).symm.trans h

theorem startsNoTimer_noteRecall : StartsNoTimer s (s.noteRecall l r) := by
  unfold State.noteRecall
  split
  · next h => exact startsNoTimer_putEntry_fetchOf h rfl
  · exact .refl s

theorem startsNoTimer_markCopyLost : StartsNoTimer s (s.markCopyLost l) := by
  unfold State.markCopyLost
  split
  · next h =>
    split
    · exact startsNoTimer_putEntry_fetchOf h rfl
    · exact .refl s
  · exact .refl s

/-- A recall is deferred under the deadline that the pin has (R99). -/
theorem startsNoTimer_deferRecall : StartsNoTimer s (s.deferRecall i r) := by
  unfold State.deferRecall
  split
  · next p hp =>
    split
    · next loc deadline o hst =>
      refine startsNoTimer_putPin fun v hv d hd => ⟨p, hp, ?_⟩
      cases hv
      rw [Pin.deadline?, hst]
      exact hd
    · exact .refl s
  · exact .refl s

theorem startsNoTimer_recallCopy (st : CopyState) : StartsNoTimer s (s.recallCopy l r st x data) := by
  cases st with
  | upgrade =>
    simp only [State.recallCopy]
    split
    · exact .of_same rfl rfl rfl
    · exact .trans (t := s.putWay l (.fill x)) (.of_same rfl rfl rfl)
        ((startsNoTimer_markCopyLost ..).trans (.of_same rfl rfl rfl))
  | _ => exact .of_same rfl rfl rfl

theorem startsNoTimer_applyRecall : StartsNoTimer s (s.applyRecall r) := by
  unfold State.applyRecall
  split
  · split
    · exact startsNoTimer_deferRecall ..
    · split
      · exact .refl s
      · exact startsNoTimer_noteRecall ..
      · exact startsNoTimer_recallCopy ..
  · split <;> exact .of_same rfl rfl rfl

theorem startsNoTimer_applyHeldRecall (o : Option RecallRecord) : StartsNoTimer s (s.applyHeldRecall o) := by
  cases o with
  | none => exact .refl s
  | some r => exact startsNoTimer_applyRecall s r

theorem startsNoTimer_takeRecall (k : RecallKind) : StartsNoTimer s (s.takeRecall k) := by
  unfold State.takeRecall
  split
  · next rest _ =>
    split
    · dsimp only
      split
      · exact .of_same rfl rfl rfl
      · exact .trans (t := { s with recallQueue := rest }) (.of_same rfl rfl rfl) (startsNoTimer_applyRecall ..)
    · exact .refl s
  · exact .refl s

theorem startsNoTimer_examineRecalls : StartsNoTimer s s.examineRecalls := by
  have examined (t : State) (p : Packet) : StartsNoTimer t (t.examineRecall p) := by
    unfold State.examineRecall State.checkRecall
    dsimp only
    (repeat' split) <;> exact .of_same rfl rfl rfl
  exact .trans (t := { s with recallCh := [] }) (.of_same rfl rfl rfl) (.foldl examined ..)

/-! ### The end of a pin -/

theorem startsNoTimer_endPin (o : Option RecallRecord) : StartsNoTimer s (s.endPin i o) :=
  (startsNoTimer_freePin s i).trans (startsNoTimer_applyHeldRecall ..)

theorem startsNoTimer_expirePin : StartsNoTimer s (s.expirePin i) := by
  unfold State.expirePin
  split
  · split
    · split
      · exact (startsNoTimer_endPin ..).trans (startsNoTimer_raise ..)
      · exact .refl s
    · exact .refl s
  · exact .refl s

theorem startsNoTimer_unlockStep (mask : List Bool) (bytes : List Byte) :
    StartsNoTimer s (s.unlockStep q mask bytes) := by
  unfold State.unlockStep State.performUnlock
  split
  · split
    · split
      · refine .trans ?_ (startsNoTimer_applyHeldRecall ..)
        refine .trans (.trans ?_ (startsNoTimer_freePin ..)) (startsNoTimer_answer ..)
        split <;> exact .of_same rfl rfl rfl
      · exact .refl s
    · exact .refl s
  · exact startsNoTimer_answer ..

/-! ### The drain engine -/

theorem startsNoTimer_endScan : StartsNoTimer s s.endScan := by
  rw [endScan_eq, completeDrain_eq]
  split <;> exact .of_same rfl rfl rfl

theorem startsNoTimer_advanceCursor : StartsNoTimer s s.advanceCursor := by
  unfold State.advanceCursor
  dsimp only
  split
  · exact .of_same rfl rfl rfl
  · split
    · exact .of_same rfl rfl rfl
    · refine .trans ?_ (startsNoTimer_endScan _)
      exact .of_same rfl rfl rfl

/-- A write-back is counted outstanding, and the cursor advances (R143, R144). -/
theorem startsNoTimer_advanceCursor_countOutstanding : StartsNoTimer s s.countOutstanding.advanceCursor :=
  .trans (t := s.countOutstanding) (.of_same rfl rfl rfl) (startsNoTimer_advanceCursor _)

theorem startsNoTimer_reportEnd (t : Txn) (written : Bool) : StartsNoTimer s (s.reportEnd t written) := by
  rw [reportEnd_eq]
  exact .of_same rfl rfl rfl

/-! ### The ends of entries -/

theorem startsNoTimer_endKeep (after : CopyState) : StartsNoTimer s (s.endKeep x l after) := by
  unfold State.endKeep
  (repeat' split) <;> exact .of_same rfl rfl rfl

theorem startsNoTimer_abandon (t : Txn) (st : RespStatus) : StartsNoTimer s (s.abandon t st) := by
  have answered := startsNoTimer_answerAll s t.waiters st
  have fetch (l : Loc) : StartsNoTimer s (((s.answerAll t.waiters st).putWay l .i).dropNoted t.noted) := by
    rw [dropNoted_eq]
    exact answered.trans (.of_same rfl rfl rfl)
  unfold State.abandon
  split
  · exact fetch _
  · exact fetch _
  · exact fetch _
  · exact .of_same rfl rfl rfl
  · exact startsNoTimer_endKeep ..
  · exact answered
  · exact answered
  · exact answered

theorem startsNoTimer_completeUncached (t : Txn) (bytes : List Byte) :
    StartsNoTimer s (s.completeUncached g t bytes) := by
  rw [completeUncached_eq]
  exact (startsNoTimer_releaseTag s g).trans (.of_same rfl rfl rfl)

/-- An expiry leaves its entry ORPHANED, which has no deadline (R84). -/
theorem startsNoTimer_expireTxn : StartsNoTimer s (s.expireTxn g) := by
  unfold State.expireTxn
  split
  · split
    · exact (((startsNoTimer_raise ..).trans (startsNoTimer_abandon ..)).trans
        (startsNoTimer_putEntry (e := .orphaned) nofun)).trans (startsNoTimer_reportEnd ..)
    · exact .refl s
  · exact .refl s

/-! ### The watch check -/

/-- What the watch check hands on, or keeps, has counted, captured or held the request, or answered it (R135). -/
theorem startsNoTimer_watchCheck {t : State} (h : s.watchCheck q = .pass t ∨ s.watchCheck q = .stopped t) :
    StartsNoTimer s t := by
  have captured (slot) : StartsNoTimer s ((s.countHits q).captureRequest q (s.matching q) slot) := by
    unfold State.captureRequest
    split <;> exact .of_same rfl rfl rfl
  unfold State.watchCheck at h
  dsimp only at h
  split at h
  · split at h <;> simp only [reduceCtorEq, WatchOutcome.stopped.injEq, false_or] at h <;> subst h
    · exact (captured _).trans (.of_same rfl rfl rfl)
    · exact (captured _).trans (startsNoTimer_answer ..)
  · split at h <;> simp only [reduceCtorEq, WatchOutcome.pass.injEq, or_false] at h <;> subst h
    · exact captured _
    · exact .of_same rfl rfl rfl

/-! ### The bulk events (R169, R172) -/

theorem startsNoTimer_trafficReset : StartsNoTimer s s.trafficReset := by
  have answered (t : State) (p : Packet) : StartsNoTimer t (t.answerReset p) := by
    unfold State.answerReset
    split <;> exact startsNoTimer_emit ..
  have requests : StartsNoTimer s s.resetIngress :=
    .trans (t := { s with ingress := [] }) (.of_same rfl rfl rfl)
      (.foldl (fun t p => (startsNoTimer_takeHead t p []).trans (answered ..)) ..)
  have holds (t : State) : StartsNoTimer t t.resetHolds := by
    rw [resetHolds_eq]
    exact .of_same rfl rfl rfl
  have recalls (t : State) (rs) : StartsNoTimer t (t.ackAll rs) := by
    rw [ackAll_eq]
    exact .of_same rfl rfl rfl
  have before (ws rs) : StartsNoTimer s ((s.resetIngress.resetHolds.answerAll ws .reset).ackAll rs) :=
    ((requests.trans (holds _)).trans (startsNoTimer_answerAll ..)).trans (recalls ..)
  unfold State.trafficReset
  rw [stopDrain_eq]
  refine (before _ _).trans ⟨rfl, fun g d hd => ?_, fun i p hp => ?_⟩
  · dsimp only at hd
    rw [mapTable_get, orphan_eq] at hd
    split at hd <;> exact absurd hd nofun
  · dsimp only at hp
    rw [replicate_get] at hp
    exact absurd hp nofun

theorem startsNoTimer_loseFarLink : StartsNoTimer s s.loseFarLink := by
  rw [loseFarLink_eq]
  refine ⟨rfl, fun g d hd => ?_, fun i p hp => ?_⟩
  · dsimp only [noticed] at hd
    rw [replicate_get] at hd
    exact absurd hd nofun
  · dsimp only [noticed] at hp
    rw [replicate_get] at hp
    exact absurd hp nofun

/-- The ACTIVE pins end at the loss of the near link (R174). -/
theorem startsNoTimer_clearPins : StartsNoTimer s s.clearPins := by
  refine .foldl (fun s i => ?_) _ s
  split
  · exact startsNoTimer_endPin s ..
  · exact .refl s

/-- At the loss of the near link the waiters go, their entries' deadlines stand (R89), and WAITING records are freed
(R123). -/
theorem startsNoTimer_nearLost : StartsNoTimer { s with noticeInterval := none } s.nearLost := by
  refine ⟨rfl, fun g d hd => ?_, fun i p hp d hd => ?_⟩
  · rw [show s.nearLost.txns[g] = TxnEntry.dropWaiters s.txns[g] from mapTable_get ..] at hd
    dsimp only
    cases he : s.txns[g] <;> rw [he] at hd <;> exact hd
  · rw [nearLost_pins] at hp
    exact ⟨p, (mem_dropWaiting.1 hp).1, hd⟩

end work

end Sys2Proof.Machine
end

section
/-! SUPPORT. The end of a microsecond: the expiries of all timers that are due, one by one (R18, R84, R120, R183; logs 2
and 3). -/

namespace Sys2Proof.Machine

open Sys2Proof.Safety

/-! ### The delivery of a notice (R18) -/

/-- An interval that runs after the delivery of a notice ran before, or starts now (R18). -/
theorem takeNotice_update (s : State) : ∃ notices egress interval,
    s.takeNotice = { s with notices := notices, egress := egress, noticeInterval := interval } ∧
      ∀ d ∈ interval, d ∈ s.noticeInterval ∨ d = s.now + 8 := by
  unfold State.takeNotice
  split
  · exact ⟨_, _, _, rfl, fun d hd => .inr (Option.mem_some.1 hd).symm⟩
  · exact ⟨_, _, _, rfl, fun d hd => .inl hd⟩

/-- An interval that runs after its end is taken does not end yet: it ran before, or starts now (R18). -/
theorem endInterval_update (s : State) : ∃ notices egress interval,
    s.endInterval = { s with notices := notices, egress := egress, noticeInterval := interval } ∧
      ∀ d ∈ interval, s.now < d ∧ (d ∈ s.noticeInterval ∨ d = s.now + 8) := by
  cases he : s.noticeInterval with
  | none =>
    refine ⟨s.notices, s.egress, none, ?_, nofun⟩
    simp only [State.endInterval, he]
    rw [← he]
  | some e =>
    by_cases hdue : e ≤ s.now
    · obtain ⟨notices, egress, interval, ht, hi⟩ := takeNotice_update { s with noticeInterval := none }
      refine ⟨notices, egress, interval, (endInterval_due he hdue).trans ht, fun d hd => ?_⟩
      obtain rfl : d = s.now + 8 := (hi d hd).resolve_left nofun
      exact ⟨by omega, .inr rfl⟩
    · refine ⟨s.notices, s.egress, some e, ?_, fun d hd => ⟨?_, .inl hd⟩⟩
      · rw [endInterval_ahead he (Nat.lt_of_not_le hdue), ← he]
      · exact Option.mem_some.1 hd ▸ Nat.lt_of_not_le hdue

/-! ### Timers that lie ahead -/

/-- The entry's timer, if it has one, is not due. -/
def EntryAhead (g : Tag) (s : State) : Prop := ∀ d ∈ TxnEntry.deadline? s.txns[g], s.now < d

/-- The pin record's timer, if it has one, is not due. -/
def PinAhead (i : Fin 4) (s : State) : Prop := ∀ p ∈ s.pins[i], ∀ d ∈ Pin.deadline? p, s.now < d

theorem StartsNoTimer.entryAhead {s t : State} (h : StartsNoTimer s t) {g : Tag} (hs : EntryAhead g s) :
    EntryAhead g t := fun d hd => h.now ▸ hs d (h.entries g d hd)

theorem StartsNoTimer.pinAhead {s t : State} (h : StartsNoTimer s t) {i : Fin 4} (hs : PinAhead i s) :
    PinAhead i t := by
  intro p hp d hd
  obtain ⟨q, hq, hd⟩ := h.pins i p hp d hd
  exact h.now ▸ hs q hq d hd

/-- After its expiry an entry is ORPHANED, or was not due (R84). -/
theorem entryAhead_expireTxn (g : Tag) (s : State) : EntryAhead g (s.expireTxn g) := by
  unfold State.expireTxn
  split
  · next t ht =>
    split
    · intro d hd
      rw [reportEnd_eq, State.putEntry] at hd
      dsimp only at hd
      rw [upd_same] at hd
      exact absurd hd nofun
    · next hdue =>
      intro d hd
      rw [ht] at hd
      exact Option.mem_some.1 hd ▸ Nat.lt_of_not_le hdue
  · next hn =>
    intro d hd
    cases he : s.txns[g] with
    | issued t => exact absurd he (hn t)
    | _ => rw [he] at hd; exact absurd hd nofun

/-- After its expiry a pin record is free, or was not due (R120). -/
theorem pinAhead_expirePin (i : Fin 4) (s : State) : PinAhead i (s.expirePin i) := by
  by_cases h : PinAhead i s
  · rwa [expirePin_notDue h]
  · simp only [PinAhead, not_forall, Nat.not_lt] at h
    obtain ⟨v, hv, d, hd, hdue⟩ := h
    cases hst : v.st with
    | waiting l => simp [Pin.deadline?, hst] at hd
    | active l deadline deferred =>
      obtain rfl : deadline = d := by simpa [Pin.deadline?, hst] using hd
      have freed : PinAhead i (s.putPin i none) := fun p hp => by
        rw [State.putPin, upd_same] at hp
        exact absurd hp nofun
      rw [expirePin_due hv hst hdue]
      exact ((startsNoTimer_applyHeldRecall ..).trans (startsNoTimer_raise ..)).pinAhead freed

/-- What a step establishes for its own item, and keeps for all others, holds of every item of a list at the end. -/
theorem foldl_establishes {α : Type} {f : State → α → State} {P : α → State → Prop}
    (own : ∀ a s, P a (f s a)) (keeps : ∀ a b s, P a s → P a (f s b)) (l : List α) (s : State) :
    ∀ a ∈ l, P a (l.foldl f s) := by
  have kept (a : α) (l : List α) (s : State) (h : P a s) : P a (l.foldl f s) := by
    induction l generalizing s with
    | nil => exact h
    | cons b l ih => exact ih _ (keeps a b s h)
  induction l generalizing s with
  | nil => exact nofun
  | cons b l ih =>
    intro a ha
    obtain rfl | ha := List.mem_cons.1 ha
    · exact kept a l _ (own a s)
    · exact ih _ a ha

/-! ### The tick -/

/-- The state in which the notice interval's end is taken: entries and pins have expired. -/
def State.expiredTables (s : State) : State :=
  (List.finRange 4).foldl State.expirePin ((List.finRange 32).foldl State.expireTxn s)

theorem expireDue_eq (s : State) : s.expireDue = s.expiredTables.endInterval := rfl

theorem startsNoTimer_expiredTables (s : State) : StartsNoTimer s s.expiredTables :=
  (StartsNoTimer.foldl startsNoTimer_expireTxn ..).trans (.foldl startsNoTimer_expirePin ..)

theorem entryAhead_expiredTables (g : Tag) (s : State) : EntryAhead g s.expiredTables :=
  (StartsNoTimer.foldl startsNoTimer_expirePin ..).entryAhead
    (foldl_establishes entryAhead_expireTxn (fun _ h s => (startsNoTimer_expireTxn s h).entryAhead) _ s g
      (List.mem_finRange g))

theorem pinAhead_expiredTables (i : Fin 4) (s : State) : PinAhead i s.expiredTables :=
  foldl_establishes pinAhead_expirePin (fun _ j s => (startsNoTimer_expirePin s j).pinAhead) _ _ i
    (List.mem_finRange i)

/-- After the expiries the present time stands and no timer is due. -/
theorem expireDue_ahead (s : State) : s.expireDue.now = s.now ∧ (∀ g, EntryAhead g s.expireDue) ∧
    (∀ i, PinAhead i s.expireDue) ∧ ∀ d ∈ s.expireDue.noticeInterval, s.now < d := by
  have now := (startsNoTimer_expiredTables s).now
  have entries := fun g => entryAhead_expiredTables g s
  have pins := fun i => pinAhead_expiredTables i s
  rw [expireDue_eq]
  generalize s.expiredTables = u at now entries pins ⊢
  obtain ⟨notices, egress, interval, he, hi⟩ := endInterval_update u
  rw [he]
  exact ⟨now, entries, pins, fun d hd => now ▸ (hi d hd).1⟩

/-- The expiries are the commands of their names, one after the other (log 3). -/
theorem follows_expireDue (s : State) : Follows expiries s s.expireDue := by
  have entries := follows_map (c := .transactionExpiry) (f := State.expireTxn) (fun _ _ => rfl) (List.finRange 32) s
  have pins := follows_map (c := .pinExpiry) (f := State.expirePin) (fun _ _ => rfl) (List.finRange 4)
    ((List.finRange 32).foldl State.expireTxn s)
  have interval : Follows [.noticeIntervalEnd] s.expiredTables s.expireDue := ⟨_, rfl, rfl⟩
  exact follows_append (follows_append entries pins) interval

/-- Settles O3: the expiries by `follows_expireDue`, and what they leave ahead by `expireDue_ahead`. -/
theorem noTimerOutlivesItsMicrosecond : Obligations.NoTimerOutlivesItsMicrosecond := by
  intro s hq
  obtain ⟨now, entries, pins, interval⟩ := expireDue_ahead s
  have tick : step s = .next { s.expireDue with now := s.now + 1 } := by
    simp only [step, hq, State.tick, now]
  exact ⟨s.expireDue, follows_expireDue s, tick, fun g => now ▸ entries g, fun i => now ▸ pins i, interval⟩

end Sys2Proof.Machine
end

section
/-! SUPPORT. Work that may start timers, each within its range, and leaves the present time and the queue as they are
(R18, R66, R115, R183). -/

namespace Sys2Proof.Machine

open Sys2Proof.Safety

/-! ### Timers within their ranges -/

/-- The present time and the queue stand, and the law of the timers is kept. -/
structure KeepsTimers (s t : State) : Prop where
  now : t.now = s.now
  pending : t.pending = s.pending
  form : TimerForm s → TimerForm t

theorem KeepsTimers.refl (s : State) : KeepsTimers s s := ⟨rfl, rfl, id⟩

theorem KeepsTimers.trans {s t u : State} (h : KeepsTimers s t) (k : KeepsTimers t u) : KeepsTimers s u :=
  ⟨k.now.trans h.now, k.pending.trans h.pending, k.form ∘ h.form⟩

/-- A timer that ran before is within its range, as it was. -/
theorem StartsNoTimer.keeps {s t : State} (h : StartsNoTimer s t) : KeepsTimers s t := by
  obtain ⟨now, pending, config, interval⟩ := clock_eq.1 h.clock
  refine ⟨now, pending, fun ⟨range, entries, pins, notices⟩ => ?_⟩
  refine ⟨config ▸ range, fun g d hd => ?_, fun i p hp d hd => ?_, ?_⟩
  · exact now ▸ entries g d (h.entries g d hd)
  · obtain ⟨q, hq, hd⟩ := h.pins i p hp d hd
    exact now ▸ pins i q hq d hd
  · rw [now, interval]
    exact notices

theorem KeepsTimers.of_same {s t : State} (hc : t.clock = s.clock) (ht : t.txns = s.txns) (hp : t.pins = s.pins) :
    KeepsTimers s t := (StartsNoTimer.of_same hc ht hp).keeps

section work

variable (s : State) (w : Waiter) (l : Loc) (x : Addr) (data : LineData) (q : Request) (g : Tag) (p : Packet)

/-! ### Timers that start -/

/-- A far request starts its entry's timer, which runs for the far timeout (R66). -/
theorem keepsTimers_issue (k : TxnKind) (ws : List Waiter) (n : Option RecallRecord) (o : Origin) (r : FarRequest) :
    KeepsTimers s (s.issue g k ws n o r) := by
  refine ⟨rfl, rfl, fun ⟨range, entries, pins, interval⟩ => ⟨range, fun h d hd => ?_, pins, interval⟩⟩
  rw [State.issue_txns, upd_get] at hd
  split at hd
  · obtain ⟨-, far, -, -, -⟩ := range
    obtain rfl : s.now + s.config.farTimeout = d := Option.mem_some.1 hd
    rw [State.issue_now]
    omega
  · exact entries h d hd

/-- An activation starts its pin's timer, which runs for the pin timeout (R115). -/
theorem keepsTimers_activatePin (i : Fin 4) (len : Nat) : KeepsTimers s (s.activatePin i l w data len) := by
  refine ⟨rfl, rfl, fun ⟨range, entries, pins, interval⟩ => ⟨range, entries, fun j v hv d hd => ?_, interval⟩⟩
  have hv : v ∈ (upd s.pins i _)[j] := hv
  rw [upd_get] at hv
  split at hv
  · obtain ⟨-, -, -, pin, -⟩ := range
    obtain ⟨u, -, rfl⟩ := Option.map_eq_some_iff.1 hv
    obtain rfl : s.now + s.config.pinTimeout = d := Option.mem_some.1 hd
    change s.now ≤ _ ∧ _ ≤ s.now + 1023
    omega
  · exact pins j v hv d hd

/-- The interval before the next notice runs for 8 microseconds (R18). -/
theorem keepsTimers_interval {interval : Option Nat} {notices : List Notice} {egress : List NearPacket}
    (h : ∀ d ∈ interval, d ∈ s.noticeInterval ∨ d = s.now + 8) :
    KeepsTimers s { s with notices := notices, egress := egress, noticeInterval := interval } := by
  refine ⟨rfl, rfl, fun ⟨range, entries, pins, running⟩ => ⟨range, entries, pins, fun d hd => ?_⟩⟩
  obtain hd | rfl := h d hd
  · exact running d hd
  · dsimp only; omega

/-- An accepted configuration record holds timeouts within their ranges (R156, R157). -/
theorem keepsTimers_config {c : ConfigRecord} (h : ConfigForm c) : KeepsTimers s { s with config := c } :=
  ⟨rfl, rfl, fun ⟨_, running⟩ => ⟨h, running⟩⟩

theorem keepsTimers_evict (i : Fin 4) (why : EvictionOrigin) (o : Origin) :
    KeepsTimers s (s.evict l x data i g why o) :=
  .trans (t := { s.putWay l .i with eb := upd s.eb i (some { line := x, data := data, origin := why, tag := g }) })
    (.of_same rfl rfl rfl) (keepsTimers_issue ..)

/-! ### Requests at the directory and at copy removal -/

theorem keepsTimers_answer (st : RespStatus) : KeepsTimers s (s.answer q st) := (startsNoTimer_answer ..).keeps

theorem keepsTimers_reply (st : MgmtStatus) (f : ReplyFields) : KeepsTimers s (s.reply p st f) :=
  (startsNoTimer_reply ..).keeps

theorem keepsTimers_refuse : KeepsTimers s (s.refuse w) := (startsNoTimer_refuse ..).keeps

theorem keepsTimers_joinList : KeepsTimers s (s.joinList w l) := by
  unfold State.joinList
  split
  · next h =>
    split
    · exact keepsTimers_refuse ..
    · exact ((startsNoTimer_putEntry_fetchOf h (by rfl)).trans (startsNoTimer_recordWay ..)).keeps
  · exact keepsTimers_refuse ..

theorem keepsTimers_issueUpgrade : KeepsTimers s (s.issueUpgrade w l x data) := by
  unfold State.issueUpgrade
  split
  · exact .trans (t := s.putWay l (.copy .upgrade x data)) (.of_same rfl rfl rfl)
      ((keepsTimers_issue ..).trans (startsNoTimer_recordWay ..).keeps)
  · exact keepsTimers_refuse ..

/-- Of the requests performed on their way, a LOCK_READ alone starts a timer (R43 to R46, R70 to R72). -/
theorem keepsTimers_perform : KeepsTimers s (s.perform w l x data) := by
  unfold State.perform
  split
  · exact .of_same rfl rfl rfl
  · exact .of_same rfl rfl rfl
  · exact .of_same rfl rfl rfl
  · exact keepsTimers_activatePin ..

theorem keepsTimers_resident : KeepsTimers s (s.resident w l) := by
  have hit (x data) : KeepsTimers s ((s.touch l).perform w l x data) :=
    .trans (t := s.touch l) (.of_same rfl rfl rfl) (keepsTimers_perform ..)
  unfold State.resident
  split
  · exact .refl s
  · exact keepsTimers_joinList ..
  · split
    · split
      · exact keepsTimers_joinList ..
      · exact hit ..
    · exact hit ..
    · exact hit ..
    · exact hit ..
    · exact keepsTimers_issueUpgrade ..
    · exact keepsTimers_joinList ..
    · exact keepsTimers_refuse ..

theorem keepsTimers_allocate : KeepsTimers s (s.allocate w x l g) := by
  have fetched (t : State) : KeepsTimers t (t.fetch w x l g) := by
    unfold State.fetch
    split <;> exact keepsTimers_issue ..
  exact .trans (t := (s.putWay l (.fill x)).touch l) (.of_same rfl rfl rfl)
    ((fetched _).trans (startsNoTimer_recordWay ..).keeps)

theorem keepsTimers_miss : KeepsTimers s (s.miss w x) := by
  unfold State.miss
  split
  · exact keepsTimers_refuse ..
  · split
    · split
      · dsimp only
        split
        · exact (keepsTimers_evict ..).trans (keepsTimers_allocate ..)
        · exact keepsTimers_refuse ..
      · exact keepsTimers_refuse ..
    · split
      · exact keepsTimers_allocate ..
      · exact keepsTimers_refuse ..

theorem keepsTimers_directory : KeepsTimers s (s.directory w x) := by
  unfold State.directory
  split
  · exact keepsTimers_refuse ..
  · split
    · exact keepsTimers_refuse ..
    · split
      · split
        · exact keepsTimers_refuse ..
        · exact keepsTimers_miss ..
      · split
        · exact keepsTimers_refuse ..
        · exact keepsTimers_resident ..

theorem keepsTimers_issueUncached : KeepsTimers s (s.issueUncached q w g) := by
  unfold State.issueUncached
  split
  · exact keepsTimers_issue ..
  · exact keepsTimers_issue ..
  · exact keepsTimers_issue ..
  · exact .refl s

theorem keepsTimers_removeCopy : KeepsTimers s (s.removeCopy q w) := by
  have retry := keepsTimers_answer s q .retry
  unfold State.removeCopy
  dsimp only
  split
  · exact retry
  · split
    · split
      · split
        · exact retry
        · split
          · exact (keepsTimers_evict ..).trans (keepsTimers_answer ..)
          · exact retry
      · split
        · exact retry
        · split
          · exact retry
          · split
            · exact .trans (t := s.putWay _ .i) (.of_same rfl rfl rfl) (keepsTimers_issueUncached ..)
            · exact retry
    · split
      · exact retry
      · split
        · exact keepsTimers_issueUncached ..
        · exact retry

theorem keepsTimers_pastWindow : KeepsTimers s (s.pastWindow q) := by
  unfold State.pastWindow
  split
  · exact keepsTimers_directory ..
  · exact keepsTimers_directory ..
  · exact keepsTimers_directory ..
  · unfold State.lockStep
    split
    · exact keepsTimers_answer ..
    · split
      · exact keepsTimers_answer ..
      · exact (startsNoTimer_reservePin ..).keeps.trans (keepsTimers_directory ..)
  · exact (startsNoTimer_unlockStep ..).keeps

/-! ### Admission -/

theorem keepsTimers_windowCheck : KeepsTimers s (s.windowCheck q) := by
  unfold State.windowCheck
  dsimp only
  split
  · exact keepsTimers_pastWindow ..
  · split
    · exact keepsTimers_answer ..
    · split
      · exact keepsTimers_answer ..
      · split
        · exact keepsTimers_answer ..
        · split
          · split
            · exact keepsTimers_removeCopy ..
            · exact .refl s
          · exact keepsTimers_pastWindow ..

theorem keepsTimers_admitFromMode : KeepsTimers s (s.admitFromMode q) := by
  unfold State.admitFromMode
  split
  · exact keepsTimers_answer ..
  · exact keepsTimers_windowCheck ..

theorem keepsTimers_admitPacket : KeepsTimers s (s.admitPacket p) := by
  unfold State.admitPacket State.admitRequest
  split
  · split
    · exact keepsTimers_answer ..
    · split
      · next h => exact (startsNoTimer_watchCheck s _ (.inl h)).keeps.trans (keepsTimers_admitFromMode ..)
      · next h => exact (startsNoTimer_watchCheck s _ (.inr h)).keeps
  · exact .of_same rfl rfl rfl

theorem keepsTimers_takeRequest (k : RequestKind) : KeepsTimers s (s.takeRequest k) := by
  unfold State.takeRequest
  split
  · split
    · exact (startsNoTimer_takeHead ..).keeps.trans (keepsTimers_admitPacket ..)
    · exact .refl s
  · exact .refl s

/-! ### Visits of the drain engine (R143, R144) -/

theorem keepsTimers_visitKeep : KeepsTimers s (s.visitKeep l x data) := by
  unfold State.visitKeep
  split
  · exact .trans (t := s.putWay l (.copy .cleaning x data)) (.of_same rfl rfl rfl)
      ((keepsTimers_issue ..).trans (startsNoTimer_advanceCursor_countOutstanding _).keeps)
  · exact .of_same rfl rfl rfl

theorem keepsTimers_visitDrop : KeepsTimers s (s.visitDrop l x data) := by
  unfold State.visitDrop
  split
  · exact (keepsTimers_evict ..).trans (startsNoTimer_advanceCursor_countOutstanding _).keeps
  · exact .of_same rfl rfl rfl

theorem keepsTimers_visit : KeepsTimers s s.visit := by
  have advanced (d : Drain) (dir : List (Fin 1024 × DirSet)) :
      KeepsTimers s ({ s with dir := dir, drain := d } : State).advanceCursor :=
    .trans (t := { s with dir := dir, drain := d }) (.of_same rfl rfl rfl) (startsNoTimer_advanceCursor _).keeps
  unfold State.visit State.visitWay
  split
  · split
    · split
      · exact advanced _ s.dir
      · split
        · exact keepsTimers_visitKeep ..
        · exact keepsTimers_visitDrop ..
        · exact advanced ..
        · exact advanced ..
        · exact (startsNoTimer_advanceCursor s).keeps
    · exact .refl s
  · exact .refl s

/-! ### Grants (R69 to R77) -/

theorem keepsTimers_walkOne {o o' : Option Requester} {t : State} (h : s.walkOne l o w = some (t, o')) :
    KeepsTimers s t := by
  unfold State.walkOne at h
  split at h
  · cases h; exact keepsTimers_refuse ..
  · split at h
    · split at h
      · cases h; exact keepsTimers_perform ..
      · split at h <;> cases h; exact keepsTimers_perform ..
      · split at h <;> cases h; exact keepsTimers_perform ..
    · cases h

theorem keepsTimers_walk (ws : List Waiter) (o : Option Requester) : KeepsTimers s (State.walk l ws o s).1 := by
  induction ws generalizing s o with
  | nil => exact .refl s
  | cons w ws ih =>
    rw [walk_cons]
    split
    · next h => exact (keepsTimers_walkOne s w l h).trans (ih ..)
    · exact .refl s

/-- The UPGRADE under which a stopped walk goes on starts its timer anew (R66, R74). -/
theorem keepsTimers_stopWalk (t : Txn) (left : List Waiter) : KeepsTimers s (s.stopWalk g t x l left) := by
  unfold State.stopWalk
  refine .trans ?_ (keepsTimers_issue ..)
  split <;> exact .of_same rfl rfl rfl

theorem keepsTimers_walkAndFinish (t : Txn) : KeepsTimers s (s.walkAndFinish g t x l) := by
  have walked := keepsTimers_walk s l t.waiters none
  unfold State.walkAndFinish
  split
  · next h =>
    rw [h] at walked
    exact walked.trans ((startsNoTimer_releaseTag ..).trans (startsNoTimer_applyHeldRecall ..)).keeps
  · next h =>
    rw [h] at walked
    exact (walked.trans (keepsTimers_stopWalk ..)).trans (startsNoTimer_applyHeldRecall ..).keeps

theorem keepsTimers_installed (st : CopyState) (t : Txn) :
    KeepsTimers s ((s.install l st x data).walkAndFinish g t x l) :=
  .trans (t := s.install l st x data) (.of_same rfl rfl rfl) (keepsTimers_walkAndFinish ..)

end work

/-! ### The responses, by their kind -/

/-- What a response does to the entry that it fits keeps the timers. -/
def AppliesTimely (f : State → Tag → Txn → List Byte → Option State) : Prop :=
  ∀ s g t payload u, f s g t payload = some u → KeepsTimers s u

theorem applyGrantSData_timely : AppliesTimely applyGrantSData := by
  intro s g t payload u h
  unfold applyGrantSData at h
  split at h
  · split at h <;> cases h <;> exact keepsTimers_installed ..
  · cases h

theorem applyGrantXData_timely : AppliesTimely applyGrantXData := by
  intro s g t payload u h
  unfold applyGrantXData at h
  split at h
  · split at h <;> cases h <;> exact keepsTimers_installed ..
  · cases h

/-- A reissue starts its entry's timer anew (R66, R77). -/
theorem applyGrantX_timely : AppliesTimely applyGrantX := by
  intro s g t payload u h
  unfold applyGrantX at h
  split at h
  · split at h
    · cases h; exact (startsNoTimer_raise ..).keeps.trans (keepsTimers_issue ..)
    · split at h <;> cases h
      · exact .trans (t := s.install _ _ _ _) (.of_same rfl rfl rfl) (keepsTimers_walkAndFinish ..)
      · exact keepsTimers_walkAndFinish ..
    · cases h
  · cases h

theorem applyWbDone_timely : AppliesTimely applyWbDone := by
  intro s g t payload u h
  unfold applyWbDone at h
  split at h
  · split at h <;> cases h
    · next slot _ =>
      refine .trans (t := s.releaseSlot slot) (.of_same rfl rfl rfl) ?_
      exact ((startsNoTimer_releaseTag ..).trans (startsNoTimer_reportEnd ..)).keeps
    · exact (((startsNoTimer_endKeep ..).trans (startsNoTimer_releaseTag ..)).trans (startsNoTimer_reportEnd ..)).keeps
  · cases h

theorem applyUcData_timely : AppliesTimely applyUcData := by
  intro s g t payload u h
  unfold applyUcData at h
  split at h
  · split at h <;> cases h; exact (startsNoTimer_completeUncached ..).keeps
  · cases h

theorem applyUcDone_timely : AppliesTimely applyUcDone := by
  intro s g t payload u h
  unfold applyUcDone at h
  split at h
  · split at h <;> cases h; exact (startsNoTimer_completeUncached ..).keeps
  · cases h

theorem applyAtomicResult_timely : AppliesTimely applyAtomicResult := by
  intro s g t payload u h
  unfold applyAtomicResult at h
  split at h
  · split at h <;> cases h; exact (startsNoTimer_completeUncached ..).keeps
  · cases h

theorem applyFail_timely : AppliesTimely applyFail := by
  intro s g t payload u h
  unfold applyFail at h
  split at h <;> cases h
  exact ((((startsNoTimer_abandon ..).trans (startsNoTimer_releaseTag ..)).trans (startsNoTimer_raise ..)).trans
    (startsNoTimer_reportEnd ..)).keeps

theorem applyNone_timely : AppliesTimely fun _ _ _ _ => none := by
  intro s g t payload u h
  cases h

/-- Conditions 1 to 3 of R67, and the response applied. -/
theorem keepsTimers_takeResponse {f : State → Tag → Txn → List Byte → Option State} (hf : AppliesTimely f) (s : State)
    (wanted : Packet → Bool) : KeepsTimers s (s.takeResponse wanted f) := by
  unfold State.takeResponse State.respond
  split
  · next rest _ =>
    split
    · refine .trans (t := { s with respCh := rest }) (.of_same rfl rfl rfl) ?_
      split
      · exact (startsNoTimer_raise ..).keeps
      · split
        · exact (startsNoTimer_raise ..).keeps
        · exact (startsNoTimer_releaseTag ..).keeps
        · split
          · next h => exact hf _ _ _ _ _ h
          · exact (startsNoTimer_raise ..).keeps
    · exact .refl s
  · exact .refl s

end Sys2Proof.Machine
end

section
/-! SUPPORT. Every command completes and, COLD_RESET apart, leaves the present time and the queue as they are and every
timer within its range; with the tick, the law of the timers (R18, R66, R115, R183). -/

namespace Sys2Proof.Machine

open Sys2Proof.Safety

/-! ### Management commands, and the delivery of notices -/

section commands

variable (s : State) (p : Packet)

/-- The commands that read an entry, or write one of the window table or the watch table (R154, R155). -/
theorem keepsTimers_runEntry {run : State → Packet → State}
    (h : run ∈ [runReadWindow, runReadWatch, runReadConfig, runWriteWindow, runWriteWatch]) :
    KeepsTimers s (run s p) := by
  simp only [List.mem_cons, List.not_mem_nil, or_false] at h
  obtain rfl | rfl | rfl | rfl | rfl := h
  · unfold runReadWindow; (repeat' split) <;> exact keepsTimers_reply ..
  · unfold runReadWatch; (repeat' split) <;> exact keepsTimers_reply ..
  · unfold runReadConfig; split <;> exact keepsTimers_reply ..
  · unfold runWriteWindow; (repeat' split) <;> exact .of_same rfl rfl rfl
  · unfold runWriteWatch; (repeat' split) <;> exact .of_same rfl rfl rfl

theorem keepsTimers_runWriteConfig : KeepsTimers s (runWriteConfig s p) := by
  unfold runWriteConfig
  split
  · next hr =>
    split
    · exact (keepsTimers_config s (configForm_of_configOf hr)).trans (keepsTimers_reply ..)
    · exact keepsTimers_reply ..
  · exact keepsTimers_reply ..

theorem keepsTimers_runDrain : KeepsTimers s (runDrain s p) := by
  unfold runDrain
  (repeat' split) <;> exact .of_same rfl rfl rfl

theorem keepsTimers_runDrainAbort : KeepsTimers s (runDrainAbort s p) := by
  unfold runDrainAbort
  split
  · exact keepsTimers_reply ..
  · refine .trans (t := { s with drain := { s.drain with aborted := true, waiting := false } })
      (.of_same rfl rfl rfl) ?_
    exact (startsNoTimer_endScan _).keeps.trans (keepsTimers_reply ..)
  · exact .of_same rfl rfl rfl

theorem keepsTimers_runPopCapture : KeepsTimers s (runPopCapture s p) := by
  unfold runPopCapture
  split <;> exact .of_same rfl rfl rfl

theorem keepsTimers_runReleaseHold : KeepsTimers s (runReleaseHold s p) := by
  unfold runReleaseHold
  split
  · next i _ =>
    split
    · exact .trans (t := { s with holds := upd s.holds i none }) (.of_same rfl rfl rfl)
        ((keepsTimers_admitFromMode ..).trans (keepsTimers_reply ..))
    · exact keepsTimers_reply ..
  · exact keepsTimers_reply ..

theorem keepsTimers_runDiscardHold : KeepsTimers s (runDiscardHold s p) := by
  unfold runDiscardHold
  (repeat' split) <;> exact .of_same rfl rfl rfl

theorem keepsTimers_runBreakPin : KeepsTimers s (runBreakPin s p) := by
  unfold runBreakPin
  split
  · split
    · split
      · exact (startsNoTimer_endPin ..).keeps.trans (keepsTimers_reply ..)
      · exact keepsTimers_reply ..
    · exact keepsTimers_reply ..
  · exact keepsTimers_reply ..

theorem keepsTimers_runReattach : KeepsTimers s (runReattach s p) := by
  unfold runReattach
  split <;> exact .of_same rfl rfl rfl

/-- A taken command keeps the timers when its execution does. -/
theorem keepsTimers_takeCommand (wanted : Packet → Bool) {run : State → Packet → State}
    (hr : ∀ s p, KeepsTimers s (run s p)) : KeepsTimers s (s.takeCommand wanted run) := by
  unfold State.takeCommand State.command
  split
  · next q rest _ =>
    split
    · refine (startsNoTimer_takeHead s q rest).keeps.trans ?_
      split
      · exact keepsTimers_reply ..
      · split
        · exact keepsTimers_reply ..
        · exact hr ..
    · exact .refl s
  · exact .refl s

theorem keepsTimers_takeNotice : KeepsTimers s s.takeNotice := by
  obtain ⟨notices, egress, interval, ht, hi⟩ := takeNotice_update s
  exact ht ▸ keepsTimers_interval s hi

theorem keepsTimers_endInterval : KeepsTimers s s.endInterval := by
  obtain ⟨notices, egress, interval, ht, hi⟩ := endInterval_update s
  rw [ht]
  exact keepsTimers_interval s fun d hd => (hi d hd).2

/-- The loss of the near link ends the interval, and the ACTIVE pins one by one (R17, R174). -/
theorem keepsTimers_loseNearLink : KeepsTimers s s.loseNearLink := by
  have lost : KeepsTimers s s.nearLost :=
    (keepsTimers_interval s (interval := none) nofun).trans (startsNoTimer_nearLost s).keeps
  have cleared := lost.trans (startsNoTimer_clearPins s.nearLost).keeps
  rw [loseNearLink_eq]
  generalize s.nearLost.clearPins = u at cleared
  exact cleared.trans (.of_same rfl rfl rfl)

end commands

/-! ### Every step -/

/-- Every command but COLD_RESET completes and keeps the timers. -/
theorem exec_keepsTimers {c : Instr} (hc : c ≠ .coldReset) (s : State) :
    ∃ t, exec c s = .next t ∧ KeepsTimers s t := by
  have same {t : State} (hc : t.clock = s.clock) (ht : t.txns = s.txns) (hp : t.pins = s.pins) :
      ∃ u, (.next t : Host.Outcome State Fault Refusal) = .next u ∧ KeepsTimers s u := ⟨t, rfl, .of_same hc ht hp⟩
  have unchanged : ∃ t, (.next s : Host.Outcome State Fault Refusal) = .next t ∧ KeepsTimers s t := same rfl rfl rfl
  cases c with
  | packetArrival p =>
    refine ⟨_, rfl, ?_⟩
    split <;> exact .of_same rfl rfl rfl
  | read => exact ⟨_, rfl, keepsTimers_takeRequest ..⟩
  | write => exact ⟨_, rfl, keepsTimers_takeRequest ..⟩
  | lockRead => exact ⟨_, rfl, keepsTimers_takeRequest ..⟩
  | unlockWrite => exact ⟨_, rfl, keepsTimers_takeRequest ..⟩
  | atomic => exact ⟨_, rfl, keepsTimers_takeRequest ..⟩
  | unknownKindRequest =>
    simp only [exec, execUnknownKindRequest]
    split
    · split
      · exact same rfl rfl rfl
      · exact unchanged
    · exact unchanged
  | responseArrival p =>
    refine ⟨_, rfl, ?_⟩
    split <;> exact .of_same rfl rfl rfl
  | grantSData => exact ⟨_, rfl, keepsTimers_takeResponse applyGrantSData_timely ..⟩
  | grantXData => exact ⟨_, rfl, keepsTimers_takeResponse applyGrantXData_timely ..⟩
  | grantX => exact ⟨_, rfl, keepsTimers_takeResponse applyGrantX_timely ..⟩
  | wbDone => exact ⟨_, rfl, keepsTimers_takeResponse applyWbDone_timely ..⟩
  | ucData => exact ⟨_, rfl, keepsTimers_takeResponse applyUcData_timely ..⟩
  | ucDone => exact ⟨_, rfl, keepsTimers_takeResponse applyUcDone_timely ..⟩
  | atomicResult => exact ⟨_, rfl, keepsTimers_takeResponse applyAtomicResult_timely ..⟩
  | fail => exact ⟨_, rfl, keepsTimers_takeResponse applyFail_timely ..⟩
  | unknownResponse => exact ⟨_, rfl, keepsTimers_takeResponse applyNone_timely ..⟩
  | shortResponse =>
    simp only [exec, execShortResponse]
    split
    · split
      · exact same rfl rfl rfl
      · exact unchanged
    · exact unchanged
  | transactionExpiry g => exact ⟨_, rfl, (startsNoTimer_expireTxn s g).keeps⟩
  | recallArrival p =>
    refine ⟨_, rfl, ?_⟩
    split
    · exact .trans (t := { s with recallCh := s.recallCh ++ [p] }) (.of_same rfl rfl rfl)
        (startsNoTimer_examineRecalls _).keeps
    · exact .refl s
  | downgrade => exact ⟨_, rfl, (startsNoTimer_takeRecall ..).keeps⟩
  | surrender => exact ⟨_, rfl, (startsNoTimer_takeRecall ..).keeps⟩
  | pinExpiry i => exact ⟨_, rfl, (startsNoTimer_expirePin s i).keeps⟩
  | drainVisit => exact ⟨_, rfl, keepsTimers_visit s⟩
  | readEntryWindow => exact ⟨_, rfl, keepsTimers_takeCommand s _ fun s p => keepsTimers_runEntry s p (by simp)⟩
  | readEntryWatch => exact ⟨_, rfl, keepsTimers_takeCommand s _ fun s p => keepsTimers_runEntry s p (by simp)⟩
  | readEntryConfig => exact ⟨_, rfl, keepsTimers_takeCommand s _ fun s p => keepsTimers_runEntry s p (by simp)⟩
  | writeEntryWindow => exact ⟨_, rfl, keepsTimers_takeCommand s _ fun s p => keepsTimers_runEntry s p (by simp)⟩
  | writeEntryWatch => exact ⟨_, rfl, keepsTimers_takeCommand s _ fun s p => keepsTimers_runEntry s p (by simp)⟩
  | writeEntryConfig => exact ⟨_, rfl, keepsTimers_takeCommand s _ keepsTimers_runWriteConfig⟩
  | readStatus => exact ⟨_, rfl, keepsTimers_takeCommand s _ fun s p => keepsTimers_reply s p ..⟩
  | probeLine => exact ⟨_, rfl, keepsTimers_takeCommand s _ fun s p => keepsTimers_reply s p ..⟩
  | listPins => exact ⟨_, rfl, keepsTimers_takeCommand s _ fun s p => keepsTimers_reply s p ..⟩
  | drain => exact ⟨_, rfl, keepsTimers_takeCommand s _ keepsTimers_runDrain⟩
  | drainAbort => exact ⟨_, rfl, keepsTimers_takeCommand s _ keepsTimers_runDrainAbort⟩
  | popCapture => exact ⟨_, rfl, keepsTimers_takeCommand s _ keepsTimers_runPopCapture⟩
  | releaseHold => exact ⟨_, rfl, keepsTimers_takeCommand s _ keepsTimers_runReleaseHold⟩
  | discardHold => exact ⟨_, rfl, keepsTimers_takeCommand s _ keepsTimers_runDiscardHold⟩
  | breakPin => exact ⟨_, rfl, keepsTimers_takeCommand s _ keepsTimers_runBreakPin⟩
  | trafficReset =>
    exact ⟨_, rfl, keepsTimers_takeCommand s _ fun s p =>
      (startsNoTimer_trafficReset s).keeps.trans (keepsTimers_reply _ p ..)⟩
  | reattach => exact ⟨_, rfl, keepsTimers_takeCommand s _ keepsTimers_runReattach⟩
  | noticeTake => exact ⟨_, rfl, keepsTimers_takeNotice s⟩
  | noticeIntervalEnd => exact ⟨_, rfl, keepsTimers_endInterval s⟩
  | egressDeparture =>
    simp only [exec, execEgressDeparture]
    split
    · exact same rfl rfl rfl
    · exact unchanged
  | farPacketDeparture channel =>
    simp only [exec, execFarPacketDeparture]
    split
    · split
      · exact same rfl rfl rfl
      · exact unchanged
    · split
      · exact same rfl rfl rfl
      · exact unchanged
    · exact unchanged
  | nearLinkDown =>
    simp only [exec, execNearLinkDown]
    split
    · exact ⟨_, rfl, keepsTimers_loseNearLink s⟩
    · exact unchanged
  | nearLinkUp =>
    simp only [exec, execNearLinkUp]
    split
    · exact same rfl rfl rfl
    · exact unchanged
  | farLinkDown =>
    simp only [exec, execFarLinkDown]
    split
    · exact ⟨_, rfl, (startsNoTimer_loseFarLink s).keeps⟩
    · exact unchanged
  | farLinkUp => exact same rfl rfl rfl
  | coldReset => exact absurd rfl hc
  | unknownCommand =>
    simp only [exec, execUnknownCommand]
    split
    · split
      · exact same rfl rfl rfl
      · exact unchanged
    · exact unchanged

/-- Settles O2: COLD_RESET leaves the queue, and every other command keeps it and the present time. -/
theorem everyCommandCompletes : Obligations.EveryCommandCompletes := by
  intro c s
  by_cases hc : c = .coldReset
  · subst hc
    exact ⟨_, rfl, rfl, fun h => absurd rfl h⟩
  · obtain ⟨t, ht, kept⟩ := exec_keepsTimers hc s
    exact ⟨t, ht, kept.pending, fun _ => kept.now⟩

/-- Every command keeps the law of the timers: after COLD_RESET none runs. -/
theorem timerForm_exec {c : Instr} {s t : State} (hs : TimerForm s) (h : exec c s = .next t) : TimerForm t := by
  by_cases hc : c = .coldReset
  · subst hc
    cases h
    exact timerForm_reset
  · obtain ⟨u, hu, kept⟩ := exec_keepsTimers hc s
    cases hu.symm.trans h
    exact kept.form hs

/-- The end of a microsecond: what is due has expired, so that no timer is behind when the present time rises (R183). -/
theorem timerForm_tick {s : State} (hs : TimerForm s) : TimerForm s.tick := by
  obtain ⟨now, entriesAhead, pinsAhead, intervalAhead⟩ := expireDue_ahead s
  have kept : KeepsTimers s s.expireDue :=
    (startsNoTimer_expiredTables s).keeps.trans (keepsTimers_endInterval s.expiredTables)
  obtain ⟨range, entries, pins, interval⟩ := kept.form hs
  unfold State.tick
  generalize s.expireDue = u at now entriesAhead pinsAhead intervalAhead range entries pins interval
  refine ⟨range, fun g d hd => ?_, fun i p hp d hd => ?_, fun d hd => ?_⟩ <;> dsimp only
  · have ahead := entriesAhead g d hd
    have bounded := entries g d hd
    omega
  · have ahead := pinsAhead i p hp d hd
    have bounded := pins i p hp d hd
    omega
  · have ahead := intervalAhead d hd
    have bounded := interval d hd
    omega

/-- Settles O12: a command at the front by `timerForm_exec`, the empty queue by `timerForm_tick`. -/
theorem stepsKeepTimersAhead : Obligations.StepsKeepTimersAhead := by
  intro s t ⟨hs, _⟩ h
  unfold step at h
  split at h
  · next c rest _ => exact timerForm_exec (s := { s with pending := rest }) hs h
  · rw [Host.Outcome.next.injEq] at h
    exact h ▸ timerForm_tick hs

end Sys2Proof.Machine
end

section
/-! SUPPORT. The victim of a miss (R49): the search from the back of the LRU order list. -/

namespace Sys2Proof.Machine

open Sys2Proof.Safety

theorem isI_iff {w : Way} : w.isI = true ↔ w = .i := by cases w <;> simp [Way.isI]

/-- The search from the back of a list ends at an element behind which none is found. -/
theorem find?_reverse_of_back {α : Type} {p : α → Bool} {l front back : List α} {v : α}
    (hl : l = front ++ v :: back) (hv : p v = true) (hb : ∀ u ∈ back, p u = false) :
    l.reverse.find? p = some v := by
  have none : back.reverse.find? p = none := List.find?_eq_none.2 fun u hu => by simp [hb u (List.mem_reverse.1 hu)]
  simp [hl, List.find?_append, none, hv]

theorem find?_reverse_none {α : Type} {p : α → Bool} {l : List α} (h : ∀ u ∈ l, p u = false) :
    l.reverse.find? p = none :=
  List.find?_eq_none.2 fun u hu => by simp [h u (List.mem_reverse.1 hu)]

/-- Settles O22: the two searches from the back, the second only where the first finds no I way. -/
theorem victimIsNearestTheBack : Obligations.VictimIsNearestTheBack := by
  intro s set front back v
  have notI {u : Fin 4} (h : (readSet s.dir set).ways[u] ≠ .i) : (readSet s.dir set).ways[u].isI = false :=
    Bool.eq_false_iff.2 fun hi => h (isI_iff.1 hi)
  have noVictim {u : Fin 4} (h : (readSet s.dir set).ways[u].isStable = false ∨
      s.pinned { set := set, way := u } = true) :
      ((readSet s.dir set).ways[u].isStable && !s.pinned { set := set, way := u }) = false := by
    rcases h with h | h <;> simp [h, -Fin.getElem_fin]
  refine ⟨fun hl hv hb => ?_, fun hl hi hv hp hb => ?_, fun h => ?_⟩
  · have found := find?_reverse_of_back (p := fun u => (readSet s.dir set).ways[u].isI) hl (isI_iff.2 hv)
      fun u hu => notI (hb u hu)
    simp only [State.victim, found]
  · have chosen : ((readSet s.dir set).ways[v].isStable && !s.pinned { set := set, way := v }) = true := by
      rw [hv, hp]
      rfl
    have none := find?_reverse_none (p := fun u => (readSet s.dir set).ways[u].isI) fun u hu => notI (hi u hu)
    have found := find?_reverse_of_back
      (p := fun u => (readSet s.dir set).ways[u].isStable && !s.pinned { set := set, way := u }) hl
      chosen fun u hu => noVictim (hb u hu)
    simp only [State.victim, none, found, Option.map_some]
  · have none := find?_reverse_none (p := fun u => (readSet s.dir set).ways[u].isI) fun u hu => notI (h u hu).1
    have none' := find?_reverse_none
      (p := fun u => (readSet s.dir set).ways[u].isStable && !s.pinned { set := set, way := u })
      fun u hu => noVictim (h u hu).2
    simp only [State.victim, none, none', Option.map_none]

end Sys2Proof.Machine
end

section
/-! SUPPORT. How a memory request comes to step 7, with the pin record that step 6 reserved for a LOCK_READ (R113), and
what each outcome of step 7 leaves (R42 to R51). -/

namespace Sys2Proof.Machine

open Sys2Proof.Safety

/-! ### The way to step 7 -/

/-- The request comes to step 7 with this access over this pin table: a LOCK_READ with the free record of lowest index
reserved, any other kind with the table as it is (R113, condition 3). -/
inductive EntersDirectory (u : State) (q : Request) : Access → Vector (Option Pin) 4 → Prop
  | plain {a : Access} (h : plainAccess q.body = some a) : EntersDirectory u q a u.pins
  | lock {len : Nat} {i : Fin 4} (hb : q.body = .lockRead len) (hp : u.hasPin q.requester = false)
    (hi : u.freePinRecord = some i) : EntersDirectory u q (.lockRead len i)
      (upd u.pins i (some { owner := q.requester, line := lineOf q.addr, st := .waiting none }))

/-- The pin table behind a request that waits: a LOCK_READ's record is WAITING on the way (R114). -/
def pinsWaiting (u : State) (q : Request) (l : Loc) : Access → Vector (Option Pin) 4
  | .lockRead _ i => upd u.pins i (some { owner := q.requester, line := lineOf q.addr, st := .waiting (some l) })
  | _ => u.pins

theorem pinsWaiting_plain {q : Request} {a : Access} (h : plainAccess q.body = some a) (u : State) (l : Loc) :
    pinsWaiting u q l a = u.pins := by
  unfold plainAccess at h
  split at h <;> cases h <;> rfl

/-- No pin record is free below the lowest free one, which is free. -/
theorem pins_of_freePinRecord {s : State} {i : Fin 4} (h : s.freePinRecord = some i) : s.pins[i] = none :=
  Option.isNone_iff_eq_none.1 (lowest_eq_some.1 h).1

/-- Two tables that a condition does not tell apart have the same lowest index. -/
theorem lowest_congr {α : Type} {n : Nat} {u v : Vector α n} {p : α → Bool} (h : ∀ i : Fin n, p u[i] = p v[i]) :
    lowest u p = lowest v p := by
  have hp : (fun i : Fin n => p u[i]) = fun i : Fin n => p v[i] := funext h
  simp only [lowest, hp]

/-- A record that a condition does not hold of takes the place of a free one: the lowest index stands. -/
theorem lowest_pins_upd {pins : Vector (Option Pin) 4} {i : Fin 4} (hi : pins[i] = none) {p : Pin} {f : Pin → Bool}
    (hf : f p = false) : lowest (upd pins i (some p)) (fun r => r.any f) = lowest pins fun r => r.any f := by
  refine lowest_congr fun j => ?_
  rw [upd_get]
  split
  · next h => subst h; simp [hi, hf, -Fin.getElem_fin]
  · rfl

section enters

variable {u : State} {q : Request} {a : Access} {pins : Vector (Option Pin) 4} (h : EntersDirectory u q a pins)
include h

theorem EntersDirectory.kind : a.kind = q.body.kind := by
  cases h with
  | plain h => cases hb : q.body <;> rw [hb] at h <;> cases h <;> rfl
  | lock hb => rw [hb]; rfl

theorem EntersDirectory.isRead : a.isRead = true ↔ q.body.kind = .read := by
  rw [← h.kind]
  cases a <;> simp [Access.isRead, Access.kind]

theorem EntersDirectory.past :
    u.pastWindow q = ({ u with pins := pins } : State).directory (waiterOf q a) (lineOf q.addr) := by
  cases h with
  | plain h => cases hb : q.body <;> rw [hb] at h <;> cases h <;> simp only [State.pastWindow, hb] <;> rfl
  | lock hb hp hi =>
    simp only [State.pastWindow, hb, State.lockStep, hp, hi]
    rfl

/-- A reserved record is no ACTIVE one. -/
theorem EntersDirectory.foreignPin (r : Requester) (x : Addr) :
    ({ u with pins := pins } : State).foreignPin r x = u.foreignPin r x := by
  cases h with
  | plain => rfl
  | lock hb hp hi => exact congrArg Option.isSome (lowest_pins_upd (pins_of_freePinRecord hi) rfl)

/-- A reserved record names no way yet. -/
theorem EntersDirectory.victim (i : Fin 1024) : ({ u with pins := pins } : State).victim i = u.victim i := by
  have pinned (l : Loc) : ({ u with pins := pins } : State).pinned l = u.pinned l := by
    cases h with
    | plain => rfl
    | lock hb hp hi => exact congrArg Option.isSome (lowest_pins_upd (pins_of_freePinRecord hi) rfl)
  simp only [State.victim, pinned]

/-- A refused request is answered RETRY and leaves nothing behind: its reserved record is free again (R42, R114). -/
theorem EntersDirectory.refuse (hn : u.nearLink = .up) :
    ({ u with pins := pins } : State).refuse (waiterOf q a) = responding u q .retry := by
  have free : pinsWithout pins [waiterOf q a] = u.pins := by
    cases h with
    | plain h =>
      refine pinsWithout_of_none (fun w hw => ?_) _
      obtain rfl := List.mem_singleton.1 hw
      cases hb : q.body <;> rw [hb] at h <;> cases h <;> rfl
    | lock hb hp hi =>
      refine (upd_upd ..).trans ?_
      rw [← pins_of_freePinRecord hi, upd_self]
  rw [refuse_eq, responding, egressAfter_up (by exact hn), ← h.kind, free]
  rfl

/-- A request that waits: a LOCK_READ's reserved record names its way (R114). -/
theorem EntersDirectory.recordWay {t : State} (ht : t.pins = pins) (l : Loc) :
    t.recordWay (waiterOf q a) l = { t with pins := pinsWaiting u q l a } := by
  cases h with
  | plain h =>
    rw [pinsWaiting_plain h, ← ht, recordWay_of_none]
    cases hb : q.body <;> rw [hb] at h <;> cases h <;> rfl
  | @lock len i hb hp hi =>
    have hr : t.pins[i] = some { owner := q.requester, line := lineOf q.addr, st := .waiting none } := by
      rw [ht, upd_same]
    simp only [State.recordWay, waiterOf, hr, State.putPin, pinsWaiting]
    rw [ht, upd_upd]

end enters

/-! ### What step 7 does with the request -/

/-- A READ of an UPGRADE line waits behind a write of its own requester (R43). -/
theorem resident_read_waits {s : State} {w : Waiter} {l : Loc} {x : Addr} {data : LineData} {g : Tag} {t : Txn}
    (h : s.wayAt l = .copy .upgrade x data) (hr : w.access.isRead = true) (hf : s.fetchOf l = some (g, t))
    (hw : WaitsToWrite w.requester t.waiters) : s.resident w l = s.joinList w l := by
  simp [State.resident, h, hr, hf, writeWaits_iff.2 hw]

/-- The fetch of a miss, by the kind of its request (03, table of 3.6). -/
theorem fetch_eq (s : State) (w : Waiter) (x : Addr) (l : Loc) (g : Tag) :
    s.fetch w x l g = s.issue g (fetchKind w.access x l) [w] none .request (fetchRequest w.access g x) := by
  unfold State.fetch fetchKind fetchRequest
  cases w.access <;> rfl

/-- The way of a miss is allocated and its fetch issued (R51, steps 3 and 4). -/
theorem allocate_eq (s : State) (w : Waiter) (x : Addr) (l : Loc) (g : Tag) :
    s.allocate w x l g = ({ s with
      dir := ((s.putWay l (.fill x)).touch l).dir
      txns := upd s.txns g (issuedNow s (fetchKind w.access x l) [w])
      reqCh := reqChAfter s [fetchRequest w.access g x] } : State).recordWay w l := by
  rw [State.allocate, fetch_eq]
  rfl

/-- The lowest FREE tag is FREE. -/
theorem txns_of_freeTag {s : State} {g : Tag} (h : s.freeTag = some g) : s.txns[g] = .free := by
  have hf := (lowest_eq_some.1 h).1
  cases he : s.txns[g] with
  | free => rfl
  | _ => rw [he] at hf; cases hf

theorem isFree_iff {e : TxnEntry} : e.isFree = true ↔ e = .free := by cases e <;> simp [TxnEntry.isFree]

/-- Behind the write-back of an M victim the next FREE tag is the second lowest (R51). -/
theorem freeTag_evict {s : State} {x old : Addr} {l : Loc} {data : LineData} {slot : Fin 4} {g h : Tag}
    (hm : MissEvicts s x l old data slot g h) :
    (s.evict l old data slot g .victim .request).freeTag = some h := by
  obtain ⟨-, -, -, -, hh, hne, hlow⟩ := hm
  rw [evict_eq]
  refine lowest_eq_some.2 ⟨?_, fun k hk => ?_⟩
  · dsimp only
    rw [upd_other _ _ _ _ hne.symm, hh]
    rfl
  · dsimp only
    rw [upd_get]
    split
    · rfl
    · next hgk => exact Bool.eq_false_iff.2 fun hf => hlow k hk (Ne.symm hgk) (isFree_iff.1 hf)

/-- R50: a miss without a victim or a resource is refused. -/
theorem miss_refused {s : State} {w : Waiter} {x : Addr} (h : MissRefused s x) : s.miss w x = s.refuse w := by
  rcases h with hv | hg | ⟨l, hv, hm, hr⟩
  · exact miss_none hv
  · exact miss_no_tag hg
  · cases hw : s.wayAt l with
    | i => rw [hw] at hm; cases hm
    | fill y => rw [hw] at hm; cases hm
    | copy st old data =>
      obtain rfl : st = .m := by
        rw [hw] at hm
        cases st <;> first | rfl | cases hm
      simp only [State.miss, hv, hw]
      split
      · next slot g hs hg =>
        rcases hr with hs' | hone
        · rw [hs'] at hs; cases hs
        · have no : (s.evict l old data slot g .victim .request).freeTag = none := by
            rw [evict_eq]
            refine lowest_eq_none.2 fun k => ?_
            dsimp only
            rw [upd_get]
            split
            · rfl
            · next hgk =>
              exact Bool.eq_false_iff.2 fun hf => hgk (hone g k (txns_of_freeTag hg) (isFree_iff.1 hf))
          simp only [no]
      · rfl

section outcomes

variable {q : Request} {c : Instr} {s u : State} {done : State → State} {a : Access} {pins : Vector (Option Pin) 4}
  {loc : Loc} {g : Tag} (hc : ComesToWindow q c s u done) (hd : ReachesDirectory u q)
  (he : EntersDirectory u q a pins)
include hc hd he

/-- The command of a request that comes to step 7. -/
theorem exec_comes_directory : exec c s =
    .next (done (({ u with pins := pins } : State).directory (waiterOf q a) (lineOf q.addr))) := by
  rw [exec_comes_past hc hd, he.past]

/-- A request that step 7 refuses. -/
theorem exec_comes_refused (h : ({ u with pins := pins } : State).directory (waiterOf q a) (lineOf q.addr) =
    ({ u with pins := pins } : State).refuse (waiterOf q a)) :
    exec c s = .next (done (responding u q .retry)) := by
  rw [exec_comes_directory hc hd he, h, he.refuse (comes_nearLink hc)]

variable (ho : Unobstructed u q)
include ho

/-- A resident line that condition 4 of R42 does not refuse. -/
theorem exec_comes_resident (hl : u.lookup (lineOf q.addr) = some loc)
    (hb : u.writebackPending (lineOf q.addr) = false ∨ (u.wayAt loc).isCleanCopy = false ∨ a.isRead = true) :
    exec c s = .next (done (({ u with pins := pins } : State).resident (waiterOf q a) loc)) := by
  rw [exec_comes_directory hc hd he]
  exact congrArg (fun t => Host.Outcome.next (done t))
    (directory_resident (s := { u with pins := pins }) ho.1 ((he.foreignPin ..).trans ho.2) hl hb)

/-- FILL, and UPGRADE for a request that a READ's exception does not serve: the request joins the end of the list, or is
refused where 8 wait (R43 to R47). -/
theorem exec_comes_joins {t : Txn} (hl : u.lookup (lineOf q.addr) = some loc)
    (hw : u.wayAt loc = .fill (lineOf q.addr) ∨ ((∃ data, u.wayAt loc = .copy .upgrade (lineOf q.addr) data) ∧
      (q.body.kind ≠ .read ∨ WaitsToWrite q.requester t.waiters))) (hf : u.fetchOf loc = some (g, t)) :
    (t.waiters.length < 8 → exec c s = .next (done { u with
      pins := pinsWaiting u q loc a
      txns := upd u.txns g (.issued { t with waiters := t.waiters ++ [waiterOf q a] }) })) ∧
    (8 ≤ t.waiters.length → exec c s = .next (done (responding u q .retry))) := by
  have hcopy : (u.wayAt loc).isCleanCopy = false := by
    rcases hw with hw | ⟨⟨data, hw⟩, -⟩ <;> rw [hw] <;> rfl
  have joins : ({ u with pins := pins } : State).resident (waiterOf q a) loc =
      ({ u with pins := pins } : State).joinList (waiterOf q a) loc := by
    rcases hw with hw | ⟨⟨data, hw⟩, hr⟩
    · exact resident_fill (s := { u with pins := pins }) hw
    · cases hread : a.isRead with
      | false => exact resident_upgrade (s := { u with pins := pins }) hw hread
      | true =>
        have hwait := hr.resolve_left fun h => h (he.isRead.1 hread)
        exact resident_read_waits (s := { u with pins := pins }) hw hread hf hwait
  rw [exec_comes_resident hc hd he ho hl (.inr (.inl hcopy)), joins]
  refine ⟨fun hlt => ?_, fun hge => ?_⟩
  · rw [joinList_room (s := { u with pins := pins }) hf hlt, he.recordWay (by rfl)]
  · rw [joinList_full (s := { u with pins := pins }) hf hge, he.refuse (comes_nearLink hc)]

/-- S, for all but a READ: an UPGRADE with the request as its first waiter, or RETRY without a FREE tag (R48). -/
theorem exec_comes_upgrades {data : LineData} (hwf : dirWf u.dir = true) (hr : q.body.kind ≠ .read)
    (hres : Resident u (lineOf q.addr) loc .s data) (hb : u.writebackPending (lineOf q.addr) = false) :
    (u.freeTag = some g → ∃ d, SetBecomes u.dir d loc.set (withWay u loc (.copy .upgrade (lineOf q.addr) data)) ∧
      exec c s = .next (done { u with
        dir := d
        pins := pinsWaiting u q loc a
        txns := upd u.txns g (issuedNow u (.upgrade (lineOf q.addr) loc false) [waiterOf q a])
        reqCh := reqChAfter u [.upgrade g (lineOf q.addr)] })) ∧
    (u.freeTag = none → exec c s = .next (done (responding u q .retry))) := by
  have hread : a.isRead = false := Bool.eq_false_iff.2 fun h => hr (he.isRead.1 h)
  rw [exec_comes_resident hc hd he ho hres.1 (.inl hb),
    resident_shared (s := { u with pins := pins }) hres.2 hread]
  refine ⟨fun hg => ⟨_, setBecomes_putWay hwf loc _, ?_⟩, fun hg => ?_⟩
  · have hg' : ({ u with pins := pins } : State).freeTag = some g := hg
    simp only [State.issueUpgrade, hg']
    rw [he.recordWay (by rfl)]
    rfl
  · have hg' : ({ u with pins := pins } : State).freeTag = none := hg
    simp only [State.issueUpgrade, hg', he.refuse (comes_nearLink hc)]

/-- CLEANING, for all but a READ: RETRY (R42, condition 4; R44). -/
theorem exec_comes_cleaning {data : LineData} (hr : q.body.kind ≠ .read)
    (hres : Resident u (lineOf q.addr) loc .cleaning data) : exec c s = .next (done (responding u q .retry)) := by
  have hread : a.isRead = false := Bool.eq_false_iff.2 fun h => hr (he.isRead.1 h)
  obtain ⟨hl, hw⟩ := hres
  cases hb : u.writebackPending (lineOf q.addr) with
  | false =>
    rw [exec_comes_resident hc hd he ho hl (.inl hb),
      resident_cleaning (s := { u with pins := pins }) hw hread, he.refuse (comes_nearLink hc)]
  | true =>
    refine exec_comes_refused hc hd he (directory_pending (s := { u with pins := pins }) hl hb ?_ hread)
    exact congrArg Way.isCleanCopy hw

section misses

variable (hl : u.lookup (lineOf q.addr) = none) (hb : u.writebackPending (lineOf q.addr) = false)
include hl hb

theorem exec_comes_miss : exec c s =
    .next (done (({ u with pins := pins } : State).miss (waiterOf q a) (lineOf q.addr))) := by
  rw [exec_comes_directory hc hd he]
  exact congrArg (fun t => Host.Outcome.next (done t))
    (directory_miss (s := { u with pins := pins }) ho.1 ((he.foreignPin ..).trans ho.2) hl hb)

/-- A victim in I, S or X: its way is allocated, and the fetch is issued (R50, R51). -/
theorem exec_comes_allocates (hwf : dirWf u.dir = true) (hv : u.victim (setIndex (lineOf q.addr)) = some loc)
    (hm : (u.wayAt loc).isM = false) (hg : u.freeTag = some g) :
    ∃ d, SetBecomes u.dir d loc.set (withWayInFront u loc (.fill (lineOf q.addr))) ∧
      exec c s = .next (done { u with
        dir := d
        pins := pinsWaiting u q loc a
        txns := upd u.txns g (issuedNow u (fetchKind a (lineOf q.addr) loc) [waiterOf q a])
        reqCh := reqChAfter u [fetchRequest a g (lineOf q.addr)] }) := by
  refine ⟨_, setBecomes_putWay_touch hwf loc _, ?_⟩
  rw [exec_comes_miss hc hd he ho hl hb, miss_clean (s := { u with pins := pins }) ((he.victim _).trans hv) hm hg,
    allocate_eq]
  exact congrArg (fun t => Host.Outcome.next (done t)) (he.recordWay rfl loc)

/-- An M victim goes home first (R50, R51, R59, R61). -/
theorem exec_comes_evicts {h : Tag} {old : Addr} {data : LineData} {slot : Fin 4} (hwf : dirWf u.dir = true)
    (hm : MissEvicts u (lineOf q.addr) loc old data slot g h) :
    ∃ d, SetBecomes u.dir d loc.set (withWayInFront u loc (.fill (lineOf q.addr))) ∧
      exec c s = .next (done { u with
        dir := d
        pins := pinsWaiting u q loc a
        eb := upd u.eb slot (some { line := old, data := data, origin := .victim, tag := g })
        txns := upd (upd u.txns g (issuedNow u (.writebackDrop old slot) []))
          h (issuedNow u (fetchKind a (lineOf q.addr) loc) [waiterOf q a])
        reqCh := reqChAfter u [.writeback g old .drop data, fetchRequest a h (lineOf q.addr)] }) := by
  have hfree := freeTag_evict (s := { u with pins := pins }) (x := lineOf q.addr)
    ⟨(he.victim _).trans hm.1, hm.2⟩
  obtain ⟨hv, hway, hs, hg, -⟩ := hm
  refine ⟨((((u.putWay loc .i).putWay loc (.fill (lineOf q.addr))).touch loc)).dir, ?_, ?_⟩
  · have both := setBecomes_trans (setBecomes_putWay hwf loc .i)
      (setBecomes_putWay_touch (dirWf_putWay u loc .i hwf) loc (.fill (lineOf q.addr)))
    simpa only [withWayInFront, State.putWay_dir, readSet_writeSet_same _ _ _ hwf, upd_upd] using both
  · rw [exec_comes_miss hc hd he ho hl hb,
      miss_modified (s := { u with pins := pins }) ((he.victim _).trans hv) hway hs hg hfree, allocate_eq]
    have hreq : reqChAfter (u.evict loc old data slot g .victim .request) [fetchRequest a h (lineOf q.addr)] =
        reqChAfter u [.writeback g old .drop data, fetchRequest a h (lineOf q.addr)] :=
      reqChAfter_append (l := [.writeback g old .drop data]) rfl rfl
    rw [← hreq]
    exact congrArg (fun t => Host.Outcome.next (done t)) (he.recordWay rfl loc)

theorem exec_comes_miss_refused (hr : MissRefused u (lineOf q.addr)) :
    exec c s = .next (done (responding u q .retry)) := by
  have hr' : MissRefused ({ u with pins := pins } : State) (lineOf q.addr) := by
    refine hr.imp (he.victim _).trans (.imp id fun ⟨l, hv, hm⟩ => ⟨l, (he.victim _).trans hv, hm⟩)
  rw [exec_comes_miss hc hd he ho hl hb, miss_refused hr', he.refuse (comes_nearLink hc)]

end misses

end outcomes

/-! ### The statements -/

/-- A way that the lookup finds awaits its line: FILL or UPGRADE of that line. -/
theorem awaits_of_lookup {u : State} {x : Addr} {l : Loc} (hl : u.lookup x = some l)
    (ha : Way.awaits (u.wayAt l) = true) : u.wayAt l = .fill x ∨ ∃ data, u.wayAt l = .copy .upgrade x data := by
  obtain ⟨-, hx, -⟩ := lookup_eq_some.1 hl
  unfold Way.awaits at ha
  split at ha
  · next y hw =>
    rw [hw] at hx
    exact .inl (hw.trans (congrArg Way.fill (Option.some.inj hx)))
  · next y data hw =>
    rw [hw] at hx
    exact .inr ⟨data, hw.trans (congrArg (Way.copy .upgrade · data) (Option.some.inj hx))⟩
  · cases ha

/-- Settles O23: S, X, M and CLEANING by `exec_comes_read`, UPGRADE where no write of the requester waits. -/
theorem readsAreServed : Obligations.ReadsAreServed := by
  intro q c s u done len loc st data hc hb hd ho hwf hres hup
  refine ⟨_, setBecomes_touch hwf loc, ?_⟩
  by_cases hst : st = .upgrade
  · subst hst
    have he : EntersDirectory u q (.read len) u.pins := .plain (by rw [hb]; rfl)
    have none (e) (hf : u.fetchOf loc = some e) : writeWaits q.requester e.2.waiters = false :=
      Bool.eq_false_iff.2 fun h => hup rfl e hf (writeWaits_iff.1 h)
    have hn := comes_nearLink hc
    rw [exec_comes_resident hc hd he ho hres.1 (.inr (.inr rfl)), resident_read_upgrade hres.2 rfl none]
    exact congrArg (fun t => Host.Outcome.next (done t)) (answerWaiter_waiterOf (s := u.touch loc)
      hn he.kind .ok (lineBytes data (offsetOf q.addr) len))
  · exact exec_comes_read hc hb hd ho hres hst

/-- A way moved to the front twice stands where one move puts it (R40). -/
theorem setBecomes_touch_touch {s : State} (h : dirWf s.dir = true) (l : Loc) :
    SetBecomes s.dir ((s.touch l).touch l).dir l.set
      { readSet s.dir l.set with lru := toFront l.way (readSet s.dir l.set).lru } := by
  have both := setBecomes_trans (setBecomes_touch h l) (setBecomes_touch (dirWf_touch s l h) l)
  simpa only [State.touch_dir, readSet_writeSet_same _ _ _ h, toFront_toFront] using both

/-- A written entry that is changed: the changed entry is written. -/
theorem upd_map_written {α : Type} {n : Nat} {a : α} (v : Vector (Option α) n) (i : Fin n) (f : α → α) :
    upd (upd v i (some a)) i ((upd v i (some a))[i].map f) = upd v i (some (f a)) := by
  rw [upd_same, upd_upd]
  rfl

/-- A LOCK_READ that finds its line in X or M: its reserved record becomes ACTIVE, and it is answered (R115). -/
theorem activated_eq {u : State} {q : Request} {len : Nat} {i : Fin 4} (hb : q.body = .lockRead len)
    (hn : u.nearLink = .up) (loc : Loc) (data : LineData) :
    (({ u with pins := upd u.pins i (some { owner := q.requester, line := lineOf q.addr, st := .waiting none }) } :
      State).touch loc).perform (waiterOf q (.lockRead len i)) loc (lineOf q.addr) data =
    responding { u with
      dir := ((u.touch loc).touch loc).dir
      pins := upd u.pins i (some { owner := q.requester, line := lineOf q.addr
                                   st := .active loc (u.now + u.config.pinTimeout) none }) } q .ok
      (lineBytes data (offsetOf q.addr) len) := by
  rw [responding, ← egressAfter_up hn, hb, ← upd_map_written (a := { owner := q.requester, line := lineOf q.addr
                                                                     st := .waiting none })
    u.pins i fun p => { p with st := .active loc (u.now + u.config.pinTimeout) none }]
  rfl

/-- Settles O25: the reserved record is activated on the way (R115). -/
theorem lockReadsActivateTheirPin : Obligations.LockReadsActivateTheirPin := by
  intro q c s u done len i loc st data hc hb hd ho hwf hres hst hp hi
  have he := EntersDirectory.lock hb hp hi
  have hcopy : (u.wayAt loc).isCleanCopy = false := by rw [hres.2]; rcases hst with rfl | rfl <;> rfl
  refine ⟨_, setBecomes_touch_touch hwf loc, ?_⟩
  rw [exec_comes_resident hc hd he ho hres.1 (.inr (.inl hcopy)), resident_exclusive (by exact hres.2) hst]
  exact congrArg (fun t => Host.Outcome.next (done t)) (activated_eq hb (comes_nearLink hc) ..)

/-- Settles O26: the outcomes of step 7 for a LOCK_READ with its record reserved. -/
theorem lockReadsWaitUnderTheirPin : Obligations.LockReadsWaitUnderTheirPin := by
  intro q c s u done len i loc g hc hb hd ho hwf hp hi
  have he := EntersDirectory.lock hb hp hi
  have hr : q.body.kind ≠ .read := by rw [hb]; simp [RequestBody.kind]
  refine ⟨fun data hres hpend => exec_comes_upgrades hc hd he ho hwf hr hres hpend,
    fun data hres => exec_comes_cleaning hc hd he ho hr hres,
    fun t hl ha hf => exec_comes_joins hc hd he ho hl ((awaits_of_lookup hl ha).imp id fun h => ⟨h, .inl hr⟩) hf,
    fun hl hpend => ⟨fun hv hm hg => exec_comes_allocates hc hd he ho hl hpend hwf hv hm hg,
      fun h old data slot hm => exec_comes_evicts hc hd he ho hl hpend hwf hm,
      fun hrf => exec_comes_miss_refused hc hd he ho hl hpend hrf⟩⟩

/-- Settles O29: the first four conditions of R42 refuse the request. -/
theorem busyLinesAnswerRetry : Obligations.BusyLinesAnswerRetry := by
  intro q c s u done hc hd hk hlock hbusy
  obtain ⟨a, pins, he⟩ : ∃ a pins, EntersDirectory u q a pins := by
    cases hb : q.body with
    | unlockWrite len mask bytes => rw [hb] at hk; exact absurd rfl hk
    | lockRead len =>
      obtain ⟨hp, hi⟩ := hlock (by rw [hb]; rfl)
      obtain ⟨i, hi⟩ := Option.ne_none_iff_exists'.1 hi
      exact ⟨_, _, .lock hb hp hi⟩
    | _ => exact ⟨_, _, .plain (by rw [hb]; rfl)⟩
  refine exec_comes_refused hc hd he ?_
  rcases hbusy with h | h | ⟨hb, hl⟩ | ⟨hb, hr, loc, data, hres⟩
  · exact directory_obstructed (.inl h)
  · exact directory_obstructed (.inr ((he.foreignPin ..).trans h))
  · exact directory_gone (s := { u with pins := pins }) hl hb
  · have hread : a.isRead = false := Bool.eq_false_iff.2 fun h => hr (he.isRead.1 h)
    have hl : u.lookup (lineOf q.addr) = some loc := hres.elim And.left And.left
    refine directory_pending (s := { u with pins := pins }) hl hb ?_ hread
    rcases hres with ⟨-, hw⟩ | ⟨-, hw⟩ <;> exact congrArg Way.isCleanCopy hw

/-- Settles O30: the outcomes of step 7 on FILL, UPGRADE, S and CLEANING, for the kinds without a pin record. -/
theorem writesWaitForExclusiveRights : Obligations.WritesWaitForExclusiveRights := by
  intro q c s u done access loc hc ha hd ho hwf hl
  have he := EntersDirectory.plain (u := u) ha
  have same : pinsWaiting u q loc access = u.pins := pinsWaiting_plain ha u loc
  refine ⟨fun g t hw hf => ?_, fun data hr hw hb => ⟨fun g hg => ?_, ?_⟩,
    fun data hr hw => exec_comes_cleaning hc hd he ho hr ⟨hl, hw⟩⟩
  · have joins := exec_comes_joins hc hd he ho hl hw hf
    rwa [same] at joins
  · have upgrades := (exec_comes_upgrades hc hd he ho hwf hr ⟨hl, hw⟩ hb).1 hg
    rwa [same] at upgrades
  · exact (exec_comes_upgrades (g := 0) hc hd he ho hwf hr ⟨hl, hw⟩ hb).2

/-- Settles O31: the three outcomes of a miss, for the kinds without a pin record. -/
theorem missesAllocateAndFetch : Obligations.MissesAllocateAndFetch := by
  intro q c s u done access hc hd ho hwf hl hb ha
  have he := EntersDirectory.plain (u := u) ha
  refine ⟨fun loc g hv hm hg => ?_, fun loc g h old data slot hm => ?_, exec_comes_miss_refused hc hd he ho hl hb⟩
  · have allocates := exec_comes_allocates hc hd he ho hl hb hwf hv hm hg
    rwa [pinsWaiting_plain ha] at allocates
  · have evicts := exec_comes_evicts hc hd he ho hl hb hwf hm
    rwa [pinsWaiting_plain ha] at evicts

end Sys2Proof.Machine
end

section
/-! SUPPORT. Work that keeps the directory's one form and every LRU order list an order of the four ways (R40; log 20). -/

namespace Sys2Proof.Machine

open Sys2Proof.Safety

/-! ### The directory's own updates -/

/-- The order lists of a directory in its form, those of unlisted sets included. -/
theorem lru_perm {s : State} (h : DirectoryForm s) (i : Fin 1024) :
    (readSet s.dir i).lru.Perm [0, 1, 2, 3] := by
  by_cases hr : readSet s.dir i = DirSet.reset
  · rw [hr]
    exact .refl _
  · exact h.2 _ (mem_of_readSet_ne hr)

/-- A set is replaced by one whose order list is an order of the four ways. -/
theorem directoryForm_writeSet {s t : State} (h : DirectoryForm s) {i : Fin 1024} {v : DirSet}
    (hv : v.lru.Perm [0, 1, 2, 3]) (ht : t.dir = writeSet s.dir i v) : DirectoryForm t := by
  refine ⟨ht ▸ dirWf_writeSet _ _ _ h.1, fun e he => ?_⟩
  rw [ht] at he
  rcases mem_writeSet he with rfl | he
  · exact hv
  · exact h.2 e he

/-- The work keeps the directory in its form. -/
structure KeepsOrder (s t : State) : Prop where
  form : DirectoryForm s → DirectoryForm t

theorem KeepsOrder.of_same {s t : State} (h : t.dir = s.dir) : KeepsOrder s t where
  form hs := by
    unfold DirectoryForm
    rw [h]
    exact hs

theorem KeepsOrder.refl (s : State) : KeepsOrder s s := ⟨id⟩

theorem KeepsOrder.trans {s t u : State} (h : KeepsOrder s t) (k : KeepsOrder t u) : KeepsOrder s u :=
  ⟨k.form ∘ h.form⟩

/-- A step at a time over a list. -/
theorem KeepsOrder.foldl {α : Type} {f : State → α → State} (h : ∀ s a, KeepsOrder s (f s a)) (l : List α)
    (s : State) : KeepsOrder s (l.foldl f s) := by
  induction l generalizing s with
  | nil => exact .refl s
  | cons a l ih => exact (h s a).trans (ih _)

/-- A replaced way leaves its set's order list as it was (R35). -/
theorem KeepsOrder.of_putWay {s t : State} {l : Loc} {w : Way} (h : t.dir = (s.putWay l w).dir) : KeepsOrder s t :=
  ⟨fun hs => directoryForm_writeSet hs (by exact lru_perm hs l.set) h⟩

section work

variable (s : State) (w : Waiter) (l : Loc) (x : Addr) (data : LineData) (r : RecallRecord) (q : Request) (p : Packet)

theorem keepsOrder_putWay (v : Way) : KeepsOrder s (s.putWay l v) := .of_putWay rfl

/-- A way moved to the front (R40). -/
theorem keepsOrder_touch : KeepsOrder s (s.touch l) :=
  ⟨fun hs => directoryForm_writeSet hs (toFront_perm (lru_perm hs l.set)) rfl⟩

/-- Every way becomes I, the order lists standing (R169). -/
theorem directoryForm_cleared {s t : State} (hs : DirectoryForm s) (ht : t.dir = mapSets DirSet.clear s.dir) :
    DirectoryForm t := by
  refine ⟨ht ▸ dirWf_mapSets _ _ hs.1, fun e he => ?_⟩
  rw [ht] at he
  obtain ⟨f, hf, rfl⟩ := List.mem_map.1 (List.mem_filter.1 he).1
  exact hs.2 f hf

/-! ### Recalls -/

theorem keepsOrder_noteRecall : KeepsOrder s (s.noteRecall l r) := by
  unfold State.noteRecall
  split <;> exact .of_same rfl

theorem keepsOrder_markCopyLost : KeepsOrder s (s.markCopyLost l) := by
  unfold State.markCopyLost
  (repeat' split) <;> exact .of_same rfl

theorem keepsOrder_deferRecall (i : Fin 4) : KeepsOrder s (s.deferRecall i r) := by
  unfold State.deferRecall
  (repeat' split) <;> exact .of_same rfl

theorem keepsOrder_recallCopy (st : CopyState) : KeepsOrder s (s.recallCopy l r st x data) := by
  by_cases hst : st = .upgrade
  · subst hst
    simp only [State.recallCopy]
    split
    · exact .of_same rfl
    · exact (keepsOrder_putWay ..).trans ((keepsOrder_markCopyLost ..).trans (.of_same rfl))
  · rw [recallCopy_stable hst]
    exact .of_putWay rfl

theorem keepsOrder_applyRecall : KeepsOrder s (s.applyRecall r) := by
  unfold State.applyRecall
  split
  · split
    · exact keepsOrder_deferRecall ..
    · split
      · exact .refl s
      · exact keepsOrder_noteRecall ..
      · exact keepsOrder_recallCopy ..
  · split <;> exact .of_same rfl

theorem keepsOrder_applyHeldRecall (o : Option RecallRecord) : KeepsOrder s (s.applyHeldRecall o) := by
  cases o with
  | none => exact .refl s
  | some r => exact keepsOrder_applyRecall s r

theorem keepsOrder_takeRecall (k : RecallKind) : KeepsOrder s (s.takeRecall k) := by
  unfold State.takeRecall
  split
  · next rest _ =>
    split
    · dsimp only
      split
      · exact .of_same rfl
      · exact .trans (t := { s with recallQueue := rest }) (.of_same rfl) (keepsOrder_applyRecall ..)
    · exact .refl s
  · exact .refl s

theorem keepsOrder_examineRecalls : KeepsOrder s s.examineRecalls := by
  have examined (t : State) (p : Packet) : KeepsOrder t (t.examineRecall p) := by
    unfold State.examineRecall State.checkRecall
    dsimp only
    (repeat' split) <;> exact .of_same rfl
  exact .trans (t := { s with recallCh := [] }) (.of_same rfl) (.foldl examined ..)

/-! ### Pins -/

theorem keepsOrder_endPin (i : Fin 4) (o : Option RecallRecord) : KeepsOrder s (s.endPin i o) :=
  .trans (t := s.putPin i none) (.of_same rfl) (keepsOrder_applyHeldRecall ..)

theorem keepsOrder_expirePin (i : Fin 4) : KeepsOrder s (s.expirePin i) := by
  unfold State.expirePin
  split
  · split
    · split
      · exact (keepsOrder_endPin ..).trans (.of_same rfl)
      · exact .refl s
    · exact .refl s
  · exact .refl s

theorem keepsOrder_unlockStep (mask : List Bool) (bytes : List Byte) : KeepsOrder s (s.unlockStep q mask bytes) := by
  unfold State.unlockStep State.performUnlock
  split
  · split
    · split
      · refine .trans ?_ (keepsOrder_applyHeldRecall ..)
        split
        · exact .of_putWay rfl
        · exact .of_same rfl
      · exact .refl s
    · exact .refl s
  · exact .of_same rfl

/-! ### Requests at the directory and at copy removal -/

theorem keepsOrder_refuse : KeepsOrder s (s.refuse w) := by
  rw [refuse_eq]
  exact .of_same rfl

theorem keepsOrder_recordWay : KeepsOrder s (s.recordWay w l) := by
  unfold State.recordWay
  (repeat' split) <;> exact .of_same rfl

theorem keepsOrder_joinList : KeepsOrder s (s.joinList w l) := by
  unfold State.joinList
  split
  · next g t _ =>
    split
    · exact keepsOrder_refuse ..
    · exact .trans (t := s.putEntry g _) (.of_same rfl) (keepsOrder_recordWay ..)
  · exact keepsOrder_refuse ..

theorem keepsOrder_issueUpgrade : KeepsOrder s (s.issueUpgrade w l x data) := by
  unfold State.issueUpgrade
  split
  · exact .trans (.of_putWay (by rfl)) (keepsOrder_recordWay ..)
  · exact keepsOrder_refuse ..

theorem keepsOrder_perform : KeepsOrder s (s.perform w l x data) := by
  unfold State.perform
  split
  · exact .of_same rfl
  · exact .of_putWay rfl
  · exact .of_putWay rfl
  · exact .trans (t := s.touch l) (keepsOrder_touch s l) (.of_same rfl)

theorem keepsOrder_resident : KeepsOrder s (s.resident w l) := by
  have hit (x data) : KeepsOrder s ((s.touch l).perform w l x data) :=
    (keepsOrder_touch s l).trans (keepsOrder_perform ..)
  unfold State.resident
  split
  · exact .refl s
  · exact keepsOrder_joinList ..
  · split
    · split
      · exact keepsOrder_joinList ..
      · exact hit ..
    · exact hit ..
    · exact hit ..
    · exact hit ..
    · exact keepsOrder_issueUpgrade ..
    · exact keepsOrder_joinList ..
    · exact keepsOrder_refuse ..

theorem keepsOrder_evict (i : Fin 4) (g : Tag) (why : EvictionOrigin) (o : Origin) :
    KeepsOrder s (s.evict l x data i g why o) := .of_putWay (w := .i) rfl

theorem keepsOrder_allocate (g : Tag) : KeepsOrder s (s.allocate w x l g) := by
  have fetched (t : State) : KeepsOrder t (t.fetch w x l g) := by
    unfold State.fetch
    split <;> exact .of_same rfl
  exact (keepsOrder_putWay s l _).trans ((keepsOrder_touch _ l).trans ((fetched _).trans (keepsOrder_recordWay ..)))

theorem keepsOrder_miss : KeepsOrder s (s.miss w x) := by
  unfold State.miss
  split
  · exact keepsOrder_refuse ..
  · split
    · split
      · dsimp only
        split
        · exact (keepsOrder_evict ..).trans (keepsOrder_allocate ..)
        · exact keepsOrder_refuse ..
      · exact keepsOrder_refuse ..
    · split
      · exact keepsOrder_allocate ..
      · exact keepsOrder_refuse ..

theorem keepsOrder_directory : KeepsOrder s (s.directory w x) := by
  unfold State.directory
  split
  · exact keepsOrder_refuse ..
  · split
    · exact keepsOrder_refuse ..
    · split
      · split
        · exact keepsOrder_refuse ..
        · exact keepsOrder_miss ..
      · split
        · exact keepsOrder_refuse ..
        · exact keepsOrder_resident ..

theorem keepsOrder_issueUncached (g : Tag) : KeepsOrder s (s.issueUncached q w g) := by
  unfold State.issueUncached
  split <;> exact .of_same rfl

theorem keepsOrder_removeCopy : KeepsOrder s (s.removeCopy q w) := by
  have retry : KeepsOrder s (s.answer q .retry) := .of_same rfl
  unfold State.removeCopy
  dsimp only
  split
  · exact retry
  · split
    · split
      · split
        · exact retry
        · split
          · exact .of_putWay (w := .i) rfl
          · exact retry
      · split
        · exact retry
        · split
          · exact retry
          · split
            · exact (keepsOrder_putWay ..).trans (keepsOrder_issueUncached ..)
            · exact retry
    · split
      · exact retry
      · split
        · exact keepsOrder_issueUncached ..
        · exact retry

theorem keepsOrder_lockStep (len : Nat) : KeepsOrder s (s.lockStep q len) := by
  unfold State.lockStep
  split
  · exact .of_same rfl
  · split
    · exact .of_same rfl
    · next i _ =>
      exact .trans (t := s.reservePin i q.requester (lineOf q.addr)) (.of_same rfl) (keepsOrder_directory ..)

theorem keepsOrder_pastWindow : KeepsOrder s (s.pastWindow q) := by
  unfold State.pastWindow
  split
  · exact keepsOrder_directory ..
  · exact keepsOrder_directory ..
  · exact keepsOrder_directory ..
  · exact keepsOrder_lockStep ..
  · exact keepsOrder_unlockStep ..

/-! ### Admission -/

theorem keepsOrder_admitFromMode : KeepsOrder s (s.admitFromMode q) := by
  unfold State.admitFromMode State.windowCheck
  split
  · exact .of_same rfl
  · dsimp only
    split
    · exact keepsOrder_pastWindow ..
    · split
      · exact .of_same rfl
      · split
        · exact .of_same rfl
        · split
          · exact .of_same rfl
          · split
            · split
              · exact keepsOrder_removeCopy ..
              · exact .refl s
            · exact keepsOrder_pastWindow ..

/-- The watch check leaves the directory as it is (R131, R133, R135). -/
theorem watchCheck_dir {t : State} (h : s.watchCheck q = .pass t ∨ s.watchCheck q = .stopped t) : t.dir = s.dir := by
  have captured (slot) : ((s.countHits q).captureRequest q (s.matching q) slot).dir = s.dir := by
    unfold State.captureRequest
    split <;> rfl
  unfold State.watchCheck at h
  dsimp only at h
  split at h
  · split at h <;> simp only [reduceCtorEq, WatchOutcome.stopped.injEq, false_or] at h <;> subst h
    · exact captured _
    · exact captured _
  · split at h <;> simp only [reduceCtorEq, WatchOutcome.pass.injEq, or_false] at h <;> subst h
    · exact captured _
    · rfl

theorem keepsOrder_admitPacket : KeepsOrder s (s.admitPacket p) := by
  unfold State.admitPacket State.admitRequest
  split
  · split
    · exact .of_same rfl
    · split
      · next h => exact .trans (.of_same (watchCheck_dir s _ (.inl h))) (keepsOrder_admitFromMode ..)
      · next h => exact .of_same (watchCheck_dir s _ (.inr h))
  · exact .of_same rfl

theorem keepsOrder_takeRequest (k : RequestKind) : KeepsOrder s (s.takeRequest k) := by
  unfold State.takeRequest
  split
  · next p rest _ =>
    split
    · exact .trans (t := s.takeHead p rest) (.of_same rfl) (keepsOrder_admitPacket ..)
    · exact .refl s
  · exact .refl s

/-! ### The drain engine -/

theorem completeDrain_dir : s.completeDrain.dir = s.dir := by rw [completeDrain_eq]

theorem endScan_dir : s.endScan.dir = s.dir := by
  rw [endScan_eq, completeDrain_eq]
  split <;> rfl

theorem keepsOrder_advanceCursor : KeepsOrder s s.advanceCursor := by
  unfold State.advanceCursor
  dsimp only
  split
  · exact .of_same rfl
  · split
    · exact .of_same rfl
    · exact .of_same (endScan_dir _)

theorem keepsOrder_visitWay : KeepsOrder s (s.visitWay l) := by
  unfold State.visitWay
  split
  · exact .trans (.of_same (by rfl)) (keepsOrder_advanceCursor _)
  · split
    · unfold State.visitKeep
      split
      · exact .trans (.of_putWay (by rfl)) (keepsOrder_advanceCursor _)
      · exact .of_same rfl
    · unfold State.visitDrop
      split
      · exact .trans (.of_putWay (by rfl)) (keepsOrder_advanceCursor _)
      · exact .of_same rfl
    · exact .trans (.of_putWay (by rfl)) (keepsOrder_advanceCursor _)
    · exact .trans (.of_putWay (by rfl)) (keepsOrder_advanceCursor _)
    · exact keepsOrder_advanceCursor s

theorem keepsOrder_visit : KeepsOrder s s.visit := by
  unfold State.visit
  split
  · split
    · exact keepsOrder_visitWay ..
    · exact .refl s
  · exact .refl s

theorem keepsOrder_reportEnd (t : Txn) (written : Bool) : KeepsOrder s (s.reportEnd t written) := by
  rw [reportEnd_eq]
  exact .of_same rfl

/-! ### The ends of entries (R78 to R84) -/

theorem keepsOrder_endKeep (after : CopyState) : KeepsOrder s (s.endKeep x l after) := by
  unfold State.endKeep
  split
  · split
    · exact keepsOrder_putWay ..
    · exact .refl s
  · exact .refl s

theorem keepsOrder_abandon (t : Txn) (st : RespStatus) : KeepsOrder s (s.abandon t st) := by
  cases hk : t.kind with
  | fetchS x l | fetchX x l | upgrade x l _ =>
    rw [abandon_fetch (l := l) (by rw [hk]; rfl)]
    exact .of_putWay rfl
  | writebackKeep x l =>
    rw [abandon_keep hk]
    exact keepsOrder_endKeep ..
  | writebackDrop x i =>
    rw [abandon_drop hk]
    exact .of_same rfl
  | ucRead | ucWrite | farAtomic =>
    rw [abandon_lineless (by rw [hk]; rfl)]
    exact .of_same rfl

theorem keepsOrder_expireTxn (g : Tag) : KeepsOrder s (s.expireTxn g) := by
  unfold State.expireTxn
  split
  · next t _ =>
    split
    · exact .trans (t := s.timedOut g t) (.of_same rfl)
        ((keepsOrder_abandon ..).trans (.trans (.of_same (by rfl)) (keepsOrder_reportEnd ..)))
    · exact .refl s
  · exact .refl s

/-! ### Grants (R69 to R77) -/

theorem keepsOrder_walk (ws : List Waiter) (o : Option Requester) : KeepsOrder s (State.walk l ws o s).1 := by
  have one {s t : State} {w : Waiter} {o o' : Option Requester} (h : s.walkOne l o w = some (t, o')) :
      KeepsOrder s t := by
    unfold State.walkOne at h
    split at h
    · cases h; exact keepsOrder_refuse ..
    · split at h
      · split at h
        · cases h; exact keepsOrder_perform ..
        · split at h <;> cases h; exact keepsOrder_perform ..
        · split at h <;> cases h; exact keepsOrder_perform ..
      · cases h
  induction ws generalizing s o with
  | nil => exact .refl s
  | cons w ws ih =>
    rw [walk_cons]
    split
    · next h => exact (one h).trans (ih ..)
    · exact .refl s

theorem keepsOrder_stopWalk (g : Tag) (t : Txn) (left : List Waiter) : KeepsOrder s (s.stopWalk g t x l left) := by
  unfold State.stopWalk
  dsimp only
  split
  · exact (keepsOrder_putWay ..).trans (.of_same rfl)
  · exact .of_same rfl

theorem keepsOrder_walkAndFinish (g : Tag) (t : Txn) : KeepsOrder s (s.walkAndFinish g t x l) := by
  have walked := keepsOrder_walk s l t.waiters none
  unfold State.walkAndFinish
  split
  · next h =>
    rw [h] at walked
    exact walked.trans (.trans (.of_same (by rfl)) (keepsOrder_applyHeldRecall ..))
  · next h =>
    rw [h] at walked
    exact (walked.trans (keepsOrder_stopWalk ..)).trans (keepsOrder_applyHeldRecall ..)

theorem keepsOrder_installed (st : CopyState) (g : Tag) (t : Txn) (y : Addr) :
    KeepsOrder s ((s.install l st x data).walkAndFinish g t y l) :=
  (keepsOrder_putWay s l _).trans ((keepsOrder_touch _ l).trans (keepsOrder_walkAndFinish ..))

end work

/-! ### The responses, by their kind -/

/-- What a response does to the ISSUED entry that it fits keeps the order lists. -/
def AppliesInOrder (f : State → Tag → Txn → List Byte → Option State) : Prop :=
  ∀ s g t payload u, f s g t payload = some u → KeepsOrder s u

theorem applyGrantSData_inOrder : AppliesInOrder applyGrantSData := by
  intro s g t payload u h
  unfold applyGrantSData at h
  split at h
  · split at h <;> cases h <;> exact keepsOrder_installed ..
  · cases h

theorem applyGrantXData_inOrder : AppliesInOrder applyGrantXData := by
  intro s g t payload u h
  unfold applyGrantXData at h
  split at h
  · split at h <;> cases h <;> exact keepsOrder_installed ..
  · cases h

theorem applyGrantX_inOrder : AppliesInOrder applyGrantX := by
  intro s g t payload u h
  unfold applyGrantX at h
  split at h
  · split at h
    · cases h; exact .of_same rfl
    · split at h <;> cases h
      · exact keepsOrder_installed ..
      · exact keepsOrder_walkAndFinish ..
    · cases h
  · cases h

theorem applyWbDone_inOrder : AppliesInOrder applyWbDone := by
  intro s g t payload u h
  unfold applyWbDone at h
  split at h
  · split at h <;> cases h
    · exact .trans (.of_same (by rfl)) (keepsOrder_reportEnd ..)
    · exact (keepsOrder_endKeep ..).trans (.trans (.of_same (by rfl)) (keepsOrder_reportEnd ..))
  · cases h

theorem keepsOrder_completeUncached (s : State) (g : Tag) (t : Txn) (data : List Byte) :
    KeepsOrder s (s.completeUncached g t data) := by
  rw [completeUncached_eq]
  exact .of_same rfl

theorem applyUcData_inOrder : AppliesInOrder applyUcData := by
  intro s g t payload u h
  unfold applyUcData at h
  split at h
  · split at h <;> cases h
    exact keepsOrder_completeUncached ..
  · cases h

theorem applyUcDone_inOrder : AppliesInOrder applyUcDone := by
  intro s g t payload u h
  unfold applyUcDone at h
  split at h
  · split at h <;> cases h
    exact keepsOrder_completeUncached ..
  · cases h

theorem applyAtomicResult_inOrder : AppliesInOrder applyAtomicResult := by
  intro s g t payload u h
  unfold applyAtomicResult at h
  split at h
  · split at h <;> cases h
    exact keepsOrder_completeUncached ..
  · cases h

theorem applyFail_inOrder : AppliesInOrder applyFail := by
  intro s g t payload u h
  unfold applyFail at h
  split at h <;> cases h
  exact (keepsOrder_abandon ..).trans (.trans (.of_same (by rfl)) (keepsOrder_reportEnd ..))

/-- Conditions 1 to 3 of R67, and the response applied. -/
theorem keepsOrder_takeResponse {f : State → Tag → Txn → List Byte → Option State} (hf : AppliesInOrder f) (s : State)
    (wanted : Packet → Bool) : KeepsOrder s (s.takeResponse wanted f) := by
  unfold State.takeResponse
  split
  · next p rest _ =>
    split
    · refine .trans (t := { s with respCh := rest }) (.of_same rfl) ?_
      unfold State.respond
      split
      · exact .of_same rfl
      · split
        · exact .of_same rfl
        · exact .of_same rfl
        · split
          · next h => exact hf _ _ _ _ _ h
          · exact .of_same rfl
    · exact .refl s
  · exact .refl s

/-! ### The bulk events -/

/-- A traffic reset leaves the reset directory (R56, R172; log 20). -/
theorem directoryForm_trafficReset (s : State) : DirectoryForm s.trafficReset := by
  unfold State.trafficReset
  rw [stopDrain_eq]
  exact ⟨rfl, by simp⟩

/-- The loss of the far link makes every way I, the order lists standing (R56, R169). -/
theorem keepsOrder_loseFarLink (s : State) : KeepsOrder s s.loseFarLink where
  form hs := by
    rw [loseFarLink_eq]
    exact directoryForm_cleared hs rfl

theorem keepsOrder_loseNearLink (s : State) : KeepsOrder s s.loseNearLink := by
  have pins (t : State) : KeepsOrder t t.clearPins := by
    refine .foldl (fun s i => ?_) _ t
    split
    · exact keepsOrder_endPin s ..
    · exact .refl s
  have lost : KeepsOrder s s.nearLost.clearPins := .trans (t := s.nearLost) (.of_same rfl) (pins _)
  rw [loseNearLink_eq]
  generalize s.nearLost.clearPins = u at lost
  exact lost.trans (.of_same rfl)

/-! ### Management commands, and the delivery of notices -/

section commands

variable (s : State) (p : Packet)

/-- The commands whose execution leaves the directory as it is. -/
theorem run_dir {run : State → Packet → State}
    (h : run ∈ [runReadWindow, runReadWatch, runReadConfig, runWriteWindow, runWriteWatch, runWriteConfig, runPopCapture,
      runDiscardHold, runReattach, runDrain]) : (run s p).dir = s.dir := by
  simp only [List.mem_cons, List.not_mem_nil, or_false] at h
  obtain rfl | rfl | rfl | rfl | rfl | rfl | rfl | rfl | rfl | rfl := h
  · unfold runReadWindow; (repeat' split) <;> rfl
  · unfold runReadWatch; (repeat' split) <;> rfl
  · unfold runReadConfig; split <;> rfl
  · unfold runWriteWindow; (repeat' split) <;> rfl
  · unfold runWriteWatch; (repeat' split) <;> rfl
  · unfold runWriteConfig; (repeat' split) <;> rfl
  · unfold runPopCapture; split <;> rfl
  · unfold runDiscardHold; (repeat' split) <;> rfl
  · unfold runReattach; split <;> rfl
  · unfold runDrain; (repeat' split) <;> rfl

theorem runDrainAbort_dir : (runDrainAbort s p).dir = s.dir := by
  unfold runDrainAbort
  split
  · rfl
  · exact endScan_dir _
  · rfl

theorem keepsOrder_runReleaseHold : KeepsOrder s (runReleaseHold s p) := by
  unfold runReleaseHold
  split
  · next i _ =>
    split
    · exact .trans (t := { s with holds := upd s.holds i none }) (.of_same rfl)
        ((keepsOrder_admitFromMode ..).trans (.of_same rfl))
    · exact .of_same rfl
  · exact .of_same rfl

theorem keepsOrder_runBreakPin : KeepsOrder s (runBreakPin s p) := by
  unfold runBreakPin
  split
  · split
    · split
      · exact (keepsOrder_endPin ..).trans (.of_same rfl)
      · exact .of_same rfl
    · exact .of_same rfl
  · exact .of_same rfl

theorem keepsOrder_runTrafficReset : KeepsOrder s (runTrafficReset s p) := by
  have reset := directoryForm_trafficReset s
  unfold runTrafficReset
  generalize s.trafficReset = u at reset
  exact ⟨fun _ => (KeepsOrder.of_same (s := u) rfl).form reset⟩

theorem takeNotice_dir : s.takeNotice.dir = s.dir := by
  unfold State.takeNotice
  split <;> rfl

theorem endInterval_dir : s.endInterval.dir = s.dir := by
  unfold State.endInterval
  split
  · split
    · exact takeNotice_dir _
    · rfl
  · rfl

/-- A taken command keeps the order lists when its execution does. -/
theorem keepsOrder_takeCommand (wanted : Packet → Bool) {run : State → Packet → State}
    (hr : ∀ s p, KeepsOrder s (run s p)) : KeepsOrder s (s.takeCommand wanted run) := by
  unfold State.takeCommand
  split
  · next p rest _ =>
    split
    · refine .trans (t := s.takeHead p rest) (.of_same rfl) ?_
      unfold State.command
      split
      · exact .of_same rfl
      · split
        · exact .of_same rfl
        · exact hr ..
    · exact .refl s
  · exact .refl s

end commands

/-! ### Every step -/

/-- Every command keeps the order lists. -/
theorem keepsOrder_exec {c : Instr} {s t : State} (h : exec c s = .next t) : KeepsOrder s t := by
  have command {run : State → Packet → State} (hr : ∀ s p, KeepsOrder s (run s p)) (wanted) :
      KeepsOrder s (s.takeCommand wanted run) := keepsOrder_takeCommand s wanted hr
  have silent {run : State → Packet → State} (hr : ∀ s p, (run s p).dir = s.dir) (wanted) :
      KeepsOrder s (s.takeCommand wanted run) := command (fun s p => .of_same (hr s p)) wanted
  cases c with
  | packetArrival p =>
    cases h
    split <;> exact .of_same rfl
  | read => cases h; exact keepsOrder_takeRequest ..
  | write => cases h; exact keepsOrder_takeRequest ..
  | lockRead => cases h; exact keepsOrder_takeRequest ..
  | unlockWrite => cases h; exact keepsOrder_takeRequest ..
  | atomic => cases h; exact keepsOrder_takeRequest ..
  | unknownKindRequest =>
    simp only [exec, execUnknownKindRequest] at h
    (repeat' split at h) <;> cases h <;> exact .of_same rfl
  | responseArrival p =>
    cases h
    split <;> exact .of_same rfl
  | grantSData => cases h; exact keepsOrder_takeResponse applyGrantSData_inOrder ..
  | grantXData => cases h; exact keepsOrder_takeResponse applyGrantXData_inOrder ..
  | grantX => cases h; exact keepsOrder_takeResponse applyGrantX_inOrder ..
  | wbDone => cases h; exact keepsOrder_takeResponse applyWbDone_inOrder ..
  | ucData => cases h; exact keepsOrder_takeResponse applyUcData_inOrder ..
  | ucDone => cases h; exact keepsOrder_takeResponse applyUcDone_inOrder ..
  | atomicResult => cases h; exact keepsOrder_takeResponse applyAtomicResult_inOrder ..
  | fail => cases h; exact keepsOrder_takeResponse applyFail_inOrder ..
  | unknownResponse =>
    cases h
    exact keepsOrder_takeResponse (fun _ _ _ _ _ h => by cases h) ..
  | shortResponse =>
    simp only [exec, execShortResponse] at h
    (repeat' split at h) <;> cases h <;> exact .of_same rfl
  | transactionExpiry g => cases h; exact keepsOrder_expireTxn s g
  | recallArrival p =>
    cases h
    split
    · exact .trans (t := { s with recallCh := s.recallCh ++ [p] }) (.of_same rfl) (keepsOrder_examineRecalls _)
    · exact .refl s
  | downgrade => cases h; exact keepsOrder_takeRecall ..
  | surrender => cases h; exact keepsOrder_takeRecall ..
  | pinExpiry i => cases h; exact keepsOrder_expirePin s i
  | drainVisit => cases h; exact keepsOrder_visit s
  | readEntryWindow => cases h; exact silent (fun s p => run_dir s p (by simp)) _
  | readEntryWatch => cases h; exact silent (fun s p => run_dir s p (by simp)) _
  | readEntryConfig => cases h; exact silent (fun s p => run_dir s p (by simp)) _
  | writeEntryWindow => cases h; exact silent (fun s p => run_dir s p (by simp)) _
  | writeEntryWatch => cases h; exact silent (fun s p => run_dir s p (by simp)) _
  | writeEntryConfig => cases h; exact silent (fun s p => run_dir s p (by simp)) _
  | readStatus => cases h; exact silent (run := runReadStatus) (fun _ _ => rfl) _
  | probeLine => cases h; exact silent (run := runProbeLine) (fun _ _ => rfl) _
  | listPins => cases h; exact silent (run := runListPins) (fun _ _ => rfl) _
  | drain => cases h; exact silent (fun s p => run_dir s p (by simp)) _
  | drainAbort => cases h; exact silent runDrainAbort_dir _
  | popCapture => cases h; exact silent (fun s p => run_dir s p (by simp)) _
  | releaseHold => cases h; exact command keepsOrder_runReleaseHold _
  | discardHold => cases h; exact silent (fun s p => run_dir s p (by simp)) _
  | breakPin => cases h; exact command keepsOrder_runBreakPin _
  | trafficReset => cases h; exact command keepsOrder_runTrafficReset _
  | reattach => cases h; exact silent (fun s p => run_dir s p (by simp)) _
  | noticeTake => cases h; exact .of_same (takeNotice_dir s)
  | noticeIntervalEnd => cases h; exact .of_same (endInterval_dir s)
  | egressDeparture =>
    simp only [exec, execEgressDeparture] at h
    split at h <;> cases h <;> exact .of_same rfl
  | farPacketDeparture channel =>
    simp only [exec, execFarPacketDeparture] at h
    (repeat' split at h) <;> cases h <;> exact .of_same rfl
  | nearLinkDown =>
    simp only [exec, execNearLinkDown] at h
    split at h <;> cases h
    · exact keepsOrder_loseNearLink s
    · exact .refl s
  | nearLinkUp =>
    simp only [exec, execNearLinkUp] at h
    split at h <;> cases h <;> exact .of_same rfl
  | farLinkDown =>
    simp only [exec, execFarLinkDown] at h
    split at h <;> cases h
    · exact keepsOrder_loseFarLink s
    · exact .refl s
  | farLinkUp => cases h; exact .of_same rfl
  | coldReset => cases h; exact ⟨fun _ => ⟨rfl, by simp [State.reset]⟩⟩
  | unknownCommand =>
    simp only [exec, execUnknownCommand] at h
    (repeat' split at h) <;> cases h <;> exact .of_same rfl

/-- The end of a microsecond: due entries and pins expire one by one (R84, R120, R183). -/
theorem keepsOrder_tick (s : State) : KeepsOrder s s.tick := by
  have tables : KeepsOrder s s.expiredTables :=
    (KeepsOrder.foldl keepsOrder_expireTxn (List.finRange 32) s).trans (.foldl keepsOrder_expirePin (List.finRange 4) _)
  have due : KeepsOrder s s.expireDue := tables.trans (.of_same (endInterval_dir s.expiredTables))
  unfold State.tick
  generalize s.expireDue = u at due
  exact due.trans (.of_same rfl)

/-- Settles O6: a command at the front by `keepsOrder_exec`, the empty queue by `keepsOrder_tick`. -/
theorem stepsKeepTheLruOrder : Obligations.StepsKeepTheLruOrder := by
  intro s t hs h
  unfold step at h
  split at h
  · next c rest _ => exact (keepsOrder_exec (s := { s with pending := rest }) h).form hs
  · rw [Host.Outcome.next.injEq] at h
    exact h ▸ (keepsOrder_tick s).form hs

end Sys2Proof.Machine
end

section
/-! SUPPORT. The law of coherence over the four tables that it binds together, each table a function: ways, transaction
entries, eviction buffer entries and pin records (R36 to R39, R59, R61, R112). -/

namespace Sys2Proof.Machine

open Sys2Proof.Safety

/-! ### The four tables -/

/-- The ways, the ISSUED entries, the eviction buffer entries and the pin records. -/
@[ext] structure Board where
  way : Loc → Way
  txn : Tag → Option Txn
  buf : Fin 4 → Option EvictionEntry
  pin : Fin 4 → Option Pin

/-- The four tables of a state. -/
def State.board (s : State) : Board :=
  { way := s.wayAt, txn := fun g => TxnEntry.txn? s.txns[g], buf := fun i => s.eb[i], pin := fun i => s.pins[i] }

namespace Board

variable (B : Board)

/-- A way is replaced. -/
abbrev setWay (l : Loc) (w : Way) : Board := { B with way := fun m => if l = m then w else B.way m }

/-- An entry is replaced. -/
abbrev setTxn (g : Tag) (t : Option Txn) : Board := { B with txn := fun h => if g = h then t else B.txn h }

/-- An eviction buffer entry is replaced. -/
abbrev setBuf (i : Fin 4) (v : Option EvictionEntry) : Board := { B with buf := fun j => if i = j then v else B.buf j }

/-- A pin record is replaced. -/
abbrev setPin (i : Fin 4) (p : Option Pin) : Board := { B with pin := fun j => if i = j then p else B.pin j }

theorem setWay_self (l : Loc) : B.setWay l (B.way l) = B := by
  refine Board.ext (funext fun m => ?_) rfl rfl rfl
  show (if l = m then B.way l else B.way m) = B.way m
  split
  · next h => rw [h]
  · rfl

theorem setTxn_self {g : Tag} {t : Option Txn} (h : B.txn g = t) : B.setTxn g t = B := by
  refine Board.ext rfl (funext fun k => ?_) rfl rfl
  show (if g = k then t else B.txn k) = B.txn k
  split
  · next hk => rw [← hk, h]
  · rfl

end Board

/-! ### The law -/

/-- The entry's kind names the line and the way: a fetch, an upgrade or a WRITEBACK KEEP. -/
def TxnKind.Names (x : Addr) (l : Loc) (k : TxnKind) : Prop :=
  k = .fetchS x l ∨ k = .fetchX x l ∨ (∃ b, k = .upgrade x l b) ∨ k = .writebackKeep x l

/-- What `Coherent` says of the four tables, while the waiters of `hand` are in no list: taken from one, or not in one
yet. Their pin records may be WAITING without being listed. -/
structure Sound (hand : List Waiter) (B : Board) : Prop where
  inSet : ∀ l x, (B.way l).line? = some x → setIndex x = l.set ∧ x.toNat % 64 = 0
  oneWay : ∀ l m x, (B.way l).line? = some x → (B.way m).line? = some x → l = m
  bufferAway : ∀ i v l, B.buf i = some v → (B.way l).line? ≠ some v.line
  oneBuffer : ∀ i j v u, B.buf i = some v → B.buf j = some u → u.line = v.line → i = j
  bufferOwned : ∀ i v, B.buf i = some v → ∃ t, B.txn v.tag = some t ∧ t.kind = .writebackDrop v.line i
  dropBuffered : ∀ g t x i, B.txn g = some t → t.kind = .writebackDrop x i →
    ∃ v, B.buf i = some v ∧ v.line = x ∧ v.tag = g
  onePerLine : ∀ g h t u x, B.txn g = some t → B.txn h = some u → t.kind.line? = some x → u.kind.line? = some x → g = h
  kindInSet : ∀ g t x l, B.txn g = some t → t.kind.Names x l → setIndex x = l.set ∧ x.toNat % 64 = 0
  entryHasWay : ∀ g t l, B.txn g = some t → t.kind.fetchLoc? = some l → WayMatches (B.way l) t.kind
  wayHasEntry : ∀ l, Way.awaits (B.way l) = true → ∃ g t, B.txn g = some t ∧ t.kind.fetchLoc? = some l
  cleaningHasEntry : ∀ l x, Way.cleaning? (B.way l) = some x → ∃ g t, B.txn g = some t ∧ t.kind = .writebackKeep x l
  keepState : ∀ g t x l m, B.txn g = some t → t.kind = .writebackKeep x l → (B.way m).line? = some x →
    m = l ∧ Way.isCleaned x (B.way m) = true
  onePin : ∀ i j p q, B.pin i = some p → B.pin j = some q → p.owner = q.owner → i = j
  activeHolds : ∀ i p l d r, B.pin i = some p → p.st = .active l d r →
    Way.isExclusive p.line (B.way l) = true ∧ ∀ v, r = some v → v.line = p.line
  oneActive : ∀ i j p q, B.pin i = some p → B.pin j = some q → p.isActive = true → q.isActive = true →
    p.line = q.line → i = j
  waitingListed : ∀ i p l, B.pin i = some p → p.st = .waiting l → (∃ w ∈ hand, Waiter.pin? w = some i) ∨
    ∃ g t, B.txn g = some t ∧ t.kind.fetchLoc? = l ∧ l.isSome = true ∧
      ∃ w ∈ t.waiters, w.requester = p.owner ∧ Waiter.pin? w = some i
  listedWaits : ∀ g t w i, B.txn g = some t → w ∈ t.waiters → Waiter.pin? w = some i →
    ∃ p, B.pin i = some p ∧ p.owner = w.requester ∧ t.kind.fetchLoc?.isSome = true ∧
      p.st = .waiting t.kind.fetchLoc? ∧ t.kind.line? = some p.line
  listBounded : ∀ g t, B.txn g = some t → t.waiters.length ≤ 8 ∧ (t.kind.line? = none → t.waiters.length ≤ 1) ∧
    (t.kind.isWriteback = true → t.waiters = [])
  notedInFill : ∀ g t r, B.txn g = some t → t.noted = some r →
    t.kind.line? = some r.line ∧ ∃ l, t.kind.fetchLoc? = some l ∧ B.way l = .fill r.line
  handApart : ∀ v ∈ hand, ∀ i, Waiter.pin? v = some i → ∀ g t w, B.txn g = some t → w ∈ t.waiters →
    Waiter.pin? w ≠ some i

/-! ### What the kinds say -/

theorem wayMatches_awaits {w : Way} {k : TxnKind} {l : Loc} (h : WayMatches w k) (hk : k.fetchLoc? = some l) :
    Way.awaits w = true ∧ w.line? = k.line? ∧ k.line?.isSome = true := by
  cases k with
  | fetchS x m => cases h; exact ⟨rfl, rfl, rfl⟩
  | fetchX x m => cases h; exact ⟨rfl, rfl, rfl⟩
  | upgrade x m b =>
    cases b with
    | true => cases h; exact ⟨rfl, rfl, rfl⟩
    | false => obtain ⟨data, rfl⟩ := h; exact ⟨rfl, rfl, rfl⟩
  | _ => cases hk

section

variable {k : TxnKind}

/-- The kinds without a line name no way, and are no WRITEBACK (R58). -/
theorem of_lineless (h : k.line? = none) :
    k.fetchLoc? = none ∧ k.isWriteback = false ∧ (∀ x l, ¬ k.Names x l) ∧ (∀ x i, k ≠ .writebackDrop x i) ∧
      ∀ x l, k ≠ .writebackKeep x l := by
  cases k with
  | ucRead | ucWrite | farAtomic => simp [TxnKind.fetchLoc?, TxnKind.isWriteback, TxnKind.Names]
  | _ => cases h

/-- A fetch or upgrade names one line and one way, and is no WRITEBACK. -/
theorem of_fetchLoc {l : Loc} (h : k.fetchLoc? = some l) :
    k.isWriteback = false ∧ (∀ x, k.line? = some x → k.Names x l) ∧ (∀ x m, k.Names x m → k.line? = some x ∧ m = l) ∧
      (∀ x i, k ≠ .writebackDrop x i) ∧ ∀ x l, k ≠ .writebackKeep x l := by
  cases k with
  | fetchS | fetchX | upgrade =>
    cases h
    simp [TxnKind.isWriteback, TxnKind.Names, TxnKind.line?]
  | _ => cases h

/-- A line's way in FILL or UPGRADE is not in CLEANING, X or M. -/
theorem of_awaits {w : Way} (h : Way.awaits w = true) :
    Way.cleaning? w = none ∧ ∀ x, Way.isExclusive x w = false := by
  cases w with
  | i => cases h
  | fill => exact ⟨rfl, fun _ => rfl⟩
  | copy st =>
    cases st with
    | upgrade => exact ⟨rfl, fun _ => rfl⟩
    | _ => cases h

theorem isExclusive_copy_iff {x y : Addr} {st : CopyState} {data : LineData} :
    Way.isExclusive x (.copy st y data) = true ↔ y = x ∧ (st = .x ∨ st = .m) := by
  cases st <;> simp [Way.isExclusive]

theorem of_isExclusive {x : Addr} {w : Way} (h : Way.isExclusive x w = true) :
    w.line? = some x ∧ Way.awaits w = false ∧ Way.cleaning? w = none ∧ Way.isCleaned x w = false := by
  cases w with
  | i | fill => cases h
  | copy st y =>
    cases st with
    | x | m => simpa [Way.isExclusive, Way.line?, Way.awaits, Way.cleaning?, Way.isCleaned] using h
    | _ => cases h

theorem of_isCleaned {x : Addr} {w : Way} (h : Way.isCleaned x w = true) :
    w.line? = some x ∧ Way.awaits w = false := by
  cases w with
  | i | fill => cases h
  | copy st y =>
    cases st with
    | s | cleaning => simpa [Way.isCleaned, Way.line?, Way.awaits] using h
    | _ => cases h

theorem of_cleaning {x : Addr} {w : Way} (h : Way.cleaning? w = some x) :
    w.line? = some x ∧ Way.awaits w = false ∧ ∀ z, Way.isExclusive z w = false := by
  cases w with
  | i | fill => cases h
  | copy st y =>
    cases st with
    | cleaning => simpa [Way.cleaning?, Way.line?, Way.awaits, Way.isExclusive] using h
    | _ => cases h

theorem line?_of_keep {x : Addr} {l : Loc} (h : k = .writebackKeep x l) :
    k.line? = some x ∧ k.fetchLoc? = none ∧ k.isWriteback = true := by
  subst h
  exact ⟨rfl, rfl, rfl⟩

theorem line?_of_drop {x : Addr} {i : Fin 4} (h : k = .writebackDrop x i) :
    k.line? = some x ∧ k.fetchLoc? = none ∧ k.isWriteback = true := by
  subst h
  exact ⟨rfl, rfl, rfl⟩

end

/-! Each change of the tables below proves again the clauses that speak of what it changes, each from the clause as it
was and the case whether an index is the changed one; the other clauses stand. -/

namespace Sound

variable {hand : List Waiter} {B : Board}

theorem entry_awaits (h : Sound hand B) {g : Tag} {t : Txn} {l : Loc} (ht : B.txn g = some t)
    (hl : t.kind.fetchLoc? = some l) :
    Way.awaits (B.way l) = true ∧ ∃ x, (B.way l).line? = some x ∧ t.kind.line? = some x := by
  obtain ⟨ha, hx, hs⟩ := wayMatches_awaits (h.entryHasWay g t l ht hl) hl
  obtain ⟨x, hk⟩ := Option.isSome_iff_exists.1 hs
  exact ⟨ha, x, hx.trans hk, hk⟩

/-- Another way replaces a way that awaits nothing, with the same line or none. -/
theorem setWay (h : Sound hand B) {l : Loc} {w : Way} (hline : w.line? = none ∨ w.line? = (B.way l).line?)
    (hold : Way.awaits (B.way l) = false) (hnew : Way.awaits w = false) (hclean : Way.cleaning? w = none)
    (hkeep : ∀ x, w.line? = some x → Way.isCleaned x w = true ∨ ∀ g t m, B.txn g = some t → t.kind ≠ .writebackKeep x m)
    (hpin : ∀ i p d r, B.pin i = some p → p.st = .active l d r → Way.isExclusive p.line w = true) :
    Sound hand (B.setWay l w) := by
  have notAt {g : Tag} {t : Txn} (ht : B.txn g = some t) : t.kind.fetchLoc? ≠ some l := fun hl => by
    rw [(h.entry_awaits ht hl).1] at hold
    cases hold
  exact { h with
    inSet := by have := h.inSet; grind
    oneWay := by have := h.oneWay; grind
    bufferAway := by have := h.bufferAway; grind
    entryHasWay := by have := h.entryHasWay; grind
    wayHasEntry := by have := h.wayHasEntry; grind
    cleaningHasEntry := by have := h.cleaningHasEntry; grind
    keepState := by have := h.keepState; grind
    activeHolds := by have := h.activeHolds; grind
    notedInFill := by have := h.notedInFill; grind }

/-- A WRITEBACK DROP is issued for a line that no way, no buffer entry and no ISSUED entry has (R59, R61). -/
theorem openDrop (h : Sound hand B) {i : Fin 4} {g : Tag} {v : EvictionEntry} {t : Txn} (hi : B.buf i = none)
    (hg : B.txn g = none) (hway : ∀ l, (B.way l).line? ≠ some v.line) (hbuf : ∀ j u, B.buf j = some u → u.line ≠ v.line)
    (hent : ∀ k u, B.txn k = some u → u.kind.line? ≠ some v.line) (hv : v.tag = g)
    (hk : t.kind = .writebackDrop v.line i) (hws : t.waiters = []) (hn : t.noted = none) :
    Sound hand ((B.setBuf i (some v)).setTxn g (some t)) := by
  have kind : t.kind.line? = some v.line ∧ t.kind.fetchLoc? = none ∧ t.kind.isWriteback = true := by
    rw [hk]
    exact ⟨rfl, rfl, rfl⟩
  have no (x l) : ¬ t.kind.Names x l := by
    rw [hk]
    simp [TxnKind.Names]
  exact { h with
    bufferAway := by have := h.bufferAway; grind
    oneBuffer := by have := h.oneBuffer; grind
    bufferOwned := by have := h.bufferOwned; grind
    dropBuffered := by have := h.dropBuffered; grind
    onePerLine := by have := h.onePerLine; grind
    kindInSet := by have := h.kindInSet; grind
    entryHasWay := by have := h.entryHasWay; grind
    wayHasEntry := by have := h.wayHasEntry; grind
    cleaningHasEntry := by have := h.cleaningHasEntry; grind
    keepState := by have := h.keepState; grind
    waitingListed := by have := h.waitingListed; grind
    listedWaits := by have := h.listedWaits; grind
    listBounded := by have := h.listBounded; grind
    notedInFill := by have := h.notedInFill; grind
    handApart := by have := h.handApart; grind }

/-- A request goes home uncached or atomic: its entry has no line, and its waiter no pin record (R28, R60). -/
theorem openLineless (h : Sound hand B) {g : Tag} {t : Txn} (hg : B.txn g = none) (hk : t.kind.line? = none)
    (hlen : t.waiters.length ≤ 1) (hws : ∀ w ∈ t.waiters, Waiter.pin? w = none) (hn : t.noted = none) :
    Sound hand (B.setTxn g (some t)) := by
  obtain ⟨hloc, hwb, names, drop, keep⟩ := of_lineless hk
  exact { h with
    bufferOwned := by have := h.bufferOwned; grind
    dropBuffered := by have := h.dropBuffered; grind
    onePerLine := by have := h.onePerLine; grind
    kindInSet := by have := h.kindInSet; grind
    entryHasWay := by have := h.entryHasWay; grind
    wayHasEntry := by have := h.wayHasEntry; grind
    cleaningHasEntry := by have := h.cleaningHasEntry; grind
    keepState := by have := h.keepState; grind
    waitingListed := by have := h.waitingListed; grind
    listedWaits := by have := h.listedWaits; grind
    listBounded := by have := h.listBounded; grind
    notedInFill := by have := h.notedInFill; grind
    handApart := by have := h.handApart; grind }

/-- The entry of a request that went home uncached or atomic ends (R79). -/
theorem closeLineless (h : Sound hand B) {g : Tag} {t : Txn} (hg : B.txn g = some t) (hk : t.kind.line? = none) :
    Sound hand (B.setTxn g none) := by
  obtain ⟨hloc, -, names, drop, keep⟩ := of_lineless hk
  exact { h with
    bufferOwned := by have := h.bufferOwned; grind
    dropBuffered := by have := h.dropBuffered; grind
    onePerLine := by have := h.onePerLine; grind
    kindInSet := by have := h.kindInSet; grind
    entryHasWay := by have := h.entryHasWay; grind
    wayHasEntry := by have := h.wayHasEntry; grind
    cleaningHasEntry := by have := h.cleaningHasEntry; grind
    keepState := by have := h.keepState; grind
    waitingListed := by have := h.waitingListed; grind
    listedWaits := by have := h.listedWaits; grind
    listBounded := by have := h.listBounded; grind
    notedInFill := by have := h.notedInFill; grind
    handApart := by have := h.handApart; grind }

/-- A fetch or upgrade is issued for a line of no other way, buffer entry or ISSUED entry, the waiters in hand in its
list (R48, R51, R74). -/
theorem openFetch {t : Txn} (h : Sound t.waiters B) {g : Tag} {l : Loc} {w : Way} {x : Addr} (hg : B.txn g = none)
    (hold : Way.awaits (B.way l) = false) (hpin : ∀ i p d r, B.pin i = some p → p.st ≠ .active l d r)
    (hloc : t.kind.fetchLoc? = some l)
    (hx : t.kind.line? = some x) (hw : WayMatches w t.kind) (hset : setIndex x = l.set ∧ x.toNat % 64 = 0)
    (hway : ∀ m, (B.way m).line? = some x → m = l) (hbuf : ∀ j u, B.buf j = some u → u.line ≠ x)
    (hent : ∀ k u, B.txn k = some u → u.kind.line? ≠ some x) (hlen : t.waiters.length ≤ 8) (hn : t.noted = none)
    (hws : ∀ v ∈ t.waiters, ∀ i, Waiter.pin? v = some i →
      ∃ p, B.pin i = some p ∧ p.owner = v.requester ∧ p.line = x ∧ p.st = .waiting (some l)) :
    Sound [] ((B.setWay l w).setTxn g (some t)) := by
  obtain ⟨ha, hline, -⟩ := wayMatches_awaits hw hloc
  obtain ⟨hwb, -, names, drop, keep⟩ := of_fetchLoc hloc
  obtain ⟨clean, excl⟩ := of_awaits ha
  have keepLine (k : TxnKind) (y m) (hk : k = .writebackKeep y m) := (line?_of_keep hk).1
  have others {k : Tag} {u : Txn} (hu : B.txn k = some u) : u.kind.fetchLoc? ≠ some l := fun hl => by
    rw [(h.entry_awaits hu hl).1] at hold
    cases hold
  exact { h with
    inSet := by have := h.inSet; grind
    oneWay := by have := h.oneWay; grind
    bufferAway := by have := h.bufferAway; grind
    bufferOwned := by have := h.bufferOwned; grind
    dropBuffered := by have := h.dropBuffered; grind
    onePerLine := by have := h.onePerLine; grind
    kindInSet := by have := h.kindInSet; grind
    entryHasWay := by have := h.entryHasWay; grind
    wayHasEntry := by have := h.wayHasEntry; grind
    cleaningHasEntry := by have := h.cleaningHasEntry; grind
    keepState := by have := h.keepState; grind
    activeHolds := by have := h.activeHolds; grind
    waitingListed := by have := h.waitingListed; grind
    listedWaits := by have := h.listedWaits; grind
    listBounded := by have := h.listBounded; grind
    notedInFill := by have := h.notedInFill; grind
    handApart := nofun }

/-- A fetch or upgrade stays under its tag, for the same line and way, the waiters in hand behind its list (R47, R77,
R97, R98). -/
theorem reenter {ws : List Waiter} (h : Sound ws B) {g : Tag} {l : Loc} {w : Way} {t u : Txn} (hg : B.txn g = some t)
    (hloc : t.kind.fetchLoc? = some l) (hloc' : u.kind.fetchLoc? = some l) (hx : u.kind.line? = t.kind.line?)
    (hw : WayMatches w u.kind) (hws : u.waiters = t.waiters ++ ws) (hlen : u.waiters.length ≤ 8)
    (hn : ∀ r, u.noted = some r → u.kind.line? = some r.line ∧ w = .fill r.line)
    (hpins : ∀ v ∈ ws, ∀ i, Waiter.pin? v = some i →
      ∃ p, B.pin i = some p ∧ p.owner = v.requester ∧ t.kind.line? = some p.line ∧ p.st = .waiting (some l)) :
    Sound [] ((B.setWay l w).setTxn g (some u)) := by
  obtain ⟨ha, hline, -⟩ := wayMatches_awaits hw hloc'
  obtain ⟨ha', x, hwx, htx⟩ := h.entry_awaits hg hloc
  obtain ⟨hwb, -, names, drop, keep⟩ := of_fetchLoc hloc'
  obtain ⟨-, named, -, drop', keep'⟩ := of_fetchLoc hloc
  obtain ⟨clean, -⟩ := of_awaits ha
  obtain ⟨clean', excl⟩ := of_awaits ha'
  have keepLine (k : TxnKind) (y m) (hk : k = .writebackKeep y m) := (line?_of_keep hk).1
  have others {k : Tag} {v : Txn} (hv : B.txn k = some v) (hl : v.kind.fetchLoc? = some l) : k = g := by
    obtain ⟨-, y, hwy, hvy⟩ := h.entry_awaits hv hl
    rw [hwx] at hwy
    cases hwy
    exact h.onePerLine _ _ _ _ _ hv hg hvy htx
  exact { h with
    inSet := by have := h.inSet; grind
    oneWay := by have := h.oneWay; grind
    bufferAway := by have := h.bufferAway; grind
    bufferOwned := by have := h.bufferOwned; grind
    dropBuffered := by have := h.dropBuffered; grind
    onePerLine := by have := h.onePerLine; grind
    kindInSet := by have := h.kindInSet; grind
    entryHasWay := by have := h.entryHasWay; grind
    wayHasEntry := by have := h.wayHasEntry; grind
    cleaningHasEntry := by have := h.cleaningHasEntry; grind
    keepState := by have := h.keepState; have := h.onePerLine; grind
    activeHolds := by have := h.activeHolds; grind
    waitingListed := by have := h.waitingListed; grind
    listedWaits := by have := h.listedWaits; grind
    listBounded := by have := h.listBounded; grind
    notedInFill := by have := h.notedInFill; grind
    handApart := nofun }

/-- A fetch or upgrade ends: its way is I or holds the line stable, its waiters are in hand (R69, R80). -/
theorem closeFetch (h : Sound [] B) {g : Tag} {l : Loc} {w : Way} {t : Txn} {x : Addr} (hg : B.txn g = some t)
    (hloc : t.kind.fetchLoc? = some l) (hx : t.kind.line? = some x)
    (hw : w = .i ∨ ∃ st data, w = .copy st x data ∧ (st = .s ∨ st = .x ∨ st = .m)) :
    Sound t.waiters ((B.setWay l w).setTxn g none) := by
  obtain ⟨ha, y, hwy, hty⟩ := h.entry_awaits hg hloc
  obtain rfl : x = y := Option.some.inj (hx.symm.trans hty)
  have awaits : Way.awaits w = false := by obtain rfl | ⟨st, data, rfl, rfl | rfl | rfl⟩ := hw <;> rfl
  have clean : Way.cleaning? w = none := by obtain rfl | ⟨st, data, rfl, rfl | rfl | rfl⟩ := hw <;> rfl
  have line : w.line? = none ∨ w.line? = some x := by obtain rfl | ⟨st, data, rfl, -⟩ := hw <;> simp [Way.line?]
  obtain ⟨clean', excl⟩ := of_awaits ha
  obtain ⟨-, -, -, drop, keep⟩ := of_fetchLoc hloc
  have keepLine (k : TxnKind) (y m) (hk : k = .writebackKeep y m) := (line?_of_keep hk).1
  have others {k : Tag} {v : Txn} (hv : B.txn k = some v) (hl : v.kind.fetchLoc? = some l) : k = g := by
    obtain ⟨-, y, hwy', hvy⟩ := h.entry_awaits hv hl
    rw [hwy] at hwy'
    cases hwy'
    exact h.onePerLine _ _ _ _ _ hv hg hvy hx
  exact { h with
    inSet := by have := h.inSet; grind
    oneWay := by have := h.oneWay; grind
    bufferAway := by have := h.bufferAway; grind
    bufferOwned := by have := h.bufferOwned; grind
    dropBuffered := by have := h.dropBuffered; grind
    onePerLine := by have := h.onePerLine; grind
    kindInSet := by have := h.kindInSet; grind
    entryHasWay := by have := h.entryHasWay; grind
    wayHasEntry := by have := h.wayHasEntry; grind
    cleaningHasEntry := by have := h.cleaningHasEntry; grind
    keepState := by have := h.keepState; have := h.onePerLine; grind
    activeHolds := by have := h.activeHolds; grind
    waitingListed := by have := h.waitingListed; grind
    listedWaits := by have := h.listedWaits; grind
    listBounded := by have := h.listBounded; grind
    notedInFill := by have := h.notedInFill; grind
    handApart := by have := h.listedWaits; grind }

/-- A WRITEBACK DROP ends, and its buffer entry with it (R61, R78, R82). -/
theorem closeDrop (h : Sound hand B) {g : Tag} {i : Fin 4} {t : Txn} {x : Addr} (hg : B.txn g = some t)
    (hk : t.kind = .writebackDrop x i) : Sound hand ((B.setBuf i none).setTxn g none) := by
  obtain ⟨hx, hloc, hwb⟩ := line?_of_drop hk
  have keepLine (k : TxnKind) (y m) (hk : k = .writebackKeep y m) := (line?_of_keep hk).1
  exact { h with
    bufferAway := by have := h.bufferAway; grind
    oneBuffer := by have := h.oneBuffer; grind
    bufferOwned := by have := h.bufferOwned; grind
    dropBuffered := by have := h.dropBuffered; have := h.onePerLine; grind
    onePerLine := by have := h.onePerLine; grind
    kindInSet := by have := h.kindInSet; grind
    entryHasWay := by have := h.entryHasWay; grind
    wayHasEntry := by have := h.wayHasEntry; grind
    cleaningHasEntry := by have := h.cleaningHasEntry; grind
    keepState := by have := h.keepState; grind
    waitingListed := by have := h.waitingListed; grind
    listedWaits := by have := h.listedWaits; grind
    listBounded := by have := h.listBounded; grind
    notedInFill := by have := h.notedInFill; grind
    handApart := by have := h.handApart; grind }

/-- A line in X or M is in no other way, in no buffer entry, and no ISSUED entry names it. -/
theorem exclusive_alone (h : Sound hand B) {l : Loc} {x : Addr} (hl : Way.isExclusive x (B.way l) = true) :
    (B.way l).line? = some x ∧ Way.awaits (B.way l) = false ∧ Way.cleaning? (B.way l) = none ∧
      ∀ g t, B.txn g = some t → t.kind.line? ≠ some x := by
  obtain ⟨hx, ha, hc, hs⟩ := of_isExclusive hl
  refine ⟨hx, ha, hc, fun g t ht hk => ?_⟩
  cases hkind : t.kind with
  | fetchS y m | fetchX y m | upgrade y m =>
    obtain ⟨hm, y, hy, hty⟩ := h.entry_awaits (l := m) ht (by rw [hkind]; rfl)
    obtain rfl : x = y := Option.some.inj (hk.symm.trans hty)
    obtain rfl := h.oneWay _ _ _ hx hy
    rw [ha] at hm
    cases hm
  | writebackKeep y m =>
    obtain rfl : y = x := by rw [hkind] at hk; exact Option.some.inj hk
    have := (h.keepState g t y m l ht hkind hx).2
    rw [hs] at this
    cases this
  | writebackDrop y i =>
    obtain rfl : y = x := by rw [hkind] at hk; exact Option.some.inj hk
    obtain ⟨v, hv, hvx, -⟩ := h.dropBuffered g t y i ht hkind
    exact h.bufferAway i v l hv (hx.trans (congrArg some hvx.symm))
  | ucRead | ucWrite | farAtomic =>
    rw [hkind] at hk
    cases hk

/-- A line in X or M stays in its way in X or M. -/
theorem setExclusive (h : Sound hand B) {l : Loc} {x : Addr} {w : Way} (hl : Way.isExclusive x (B.way l) = true)
    (hw : Way.isExclusive x w = true) : Sound hand (B.setWay l w) := by
  obtain ⟨hx, ha, -, hent⟩ := h.exclusive_alone hl
  obtain ⟨hwx, hwa, hwc, -⟩ := of_isExclusive hw
  refine h.setWay (.inr (hwx.trans hx.symm)) ha hwa hwc (fun y hy => .inr fun g t m ht hk => ?_)
    fun i p d r hp hst => ?_
  · obtain rfl : x = y := Option.some.inj (hwx.symm.trans hy)
    exact hent g t ht (line?_of_keep hk).1
  · have line := (of_isExclusive (h.activeHolds i p l d r hp hst).1).1
    obtain rfl : x = p.line := Option.some.inj (hx.symm.trans line)
    exact hw

/-- A modified line is cleaned in place: its way is in CLEANING under a WRITEBACK KEEP (R143). -/
theorem openKeep (h : Sound hand B) {g : Tag} {l : Loc} {w : Way} {t : Txn} {x : Addr} (hg : B.txn g = none)
    (hl : Way.isExclusive x (B.way l) = true) (hpin : ∀ i p d r, B.pin i = some p → p.st ≠ .active l d r)
    (hw : Way.isCleaned x w = true) (hc : Way.cleaning? w = some x) (hk : t.kind = .writebackKeep x l)
    (hws : t.waiters = []) (hn : t.noted = none) : Sound hand ((B.setWay l w).setTxn g (some t)) := by
  obtain ⟨hx, ha, hcl, hent⟩ := h.exclusive_alone hl
  obtain ⟨hkx, hloc, hwb⟩ := line?_of_keep hk
  obtain ⟨hwx, hwa⟩ := of_isCleaned hw
  have names (y m) : t.kind.Names y m → y = x ∧ m = l := by
    rw [hk]
    simp +contextual [TxnKind.Names]
  have keepLine (k : TxnKind) (y m) (hk : k = .writebackKeep y m) := (line?_of_keep hk).1
  have others {k : Tag} {u : Txn} (hu : B.txn k = some u) : u.kind.fetchLoc? ≠ some l := fun hl => by
    rw [(h.entry_awaits hu hl).1] at ha
    cases ha
  exact { h with
    inSet := by have := h.inSet; grind
    oneWay := by have := h.oneWay; grind
    bufferAway := by have := h.bufferAway; grind
    bufferOwned := by have := h.bufferOwned; grind
    dropBuffered := by have := h.dropBuffered; grind
    onePerLine := by have := h.onePerLine; grind
    kindInSet := by have := h.kindInSet; have := h.inSet; grind
    entryHasWay := by have := h.entryHasWay; grind
    wayHasEntry := by have := h.wayHasEntry; grind
    cleaningHasEntry := by have := h.cleaningHasEntry; grind
    keepState := by have := h.keepState; have := h.oneWay; grind
    activeHolds := by have := h.activeHolds; grind
    waitingListed := by have := h.waitingListed; grind
    listedWaits := by have := h.listedWaits; grind
    listBounded := by have := h.listBounded; grind
    notedInFill := by have := h.notedInFill; grind
    handApart := by have := h.handApart; grind }

/-- A WRITEBACK KEEP ends: its way leaves CLEANING, or is not in CLEANING any more (R78, R81). -/
theorem closeKeep (h : Sound hand B) {g : Tag} {l : Loc} {w : Way} {t : Txn} {x : Addr} (hg : B.txn g = some t)
    (hk : t.kind = .writebackKeep x l)
    (hw : (w = B.way l ∧ Way.cleaning? w ≠ some x) ∨ (Way.cleaning? (B.way l) = some x ∧ Way.isExclusive x w = true)) :
    Sound hand ((B.setWay l w).setTxn g none) := by
  obtain ⟨hkx, hloc, hwb⟩ := line?_of_keep hk
  have keepLine (k : TxnKind) (y m) (hk : k = .writebackKeep y m) := (line?_of_keep hk).1
  have same : w.line? = (B.way l).line? := by
    obtain ⟨rfl, -⟩ | ⟨hc, he⟩ := hw
    · rfl
    · exact (of_isExclusive he).1.trans (of_cleaning hc).1.symm
  have excl (y) : Way.isExclusive y w = true → Way.cleaning? w = none ∧ Way.awaits w = false := fun hy =>
    ⟨(of_isExclusive hy).2.2.1, (of_isExclusive hy).2.1⟩
  have clean (y) : Way.cleaning? (B.way l) = some y → (B.way l).line? = some y ∧ Way.awaits (B.way l) = false ∧
      ∀ z, Way.isExclusive z (B.way l) = false := of_cleaning
  have others {k : Tag} {u : Txn} (hu : B.txn k = some u) (hl : u.kind.fetchLoc? = some l) :
      Way.awaits (B.way l) = true := (h.entry_awaits hu hl).1
  exact { h with
    inSet := by have := h.inSet; grind
    oneWay := by have := h.oneWay; grind
    bufferAway := by have := h.bufferAway; grind
    bufferOwned := by have := h.bufferOwned; grind
    dropBuffered := by have := h.dropBuffered; grind
    onePerLine := by have := h.onePerLine; grind
    kindInSet := by have := h.kindInSet; grind
    entryHasWay := by have := h.entryHasWay; grind
    wayHasEntry := by have := h.wayHasEntry; grind
    cleaningHasEntry := by have := h.cleaningHasEntry; grind
    keepState := by have := h.keepState; have := h.onePerLine; grind
    activeHolds := by have := h.activeHolds; grind
    waitingListed := by have := h.waitingListed; grind
    listedWaits := by have := h.listedWaits; grind
    listBounded := by have := h.listBounded; grind
    notedInFill := by have := h.notedInFill; grind
    handApart := by have := h.handApart; grind }

/-! ### Pin records -/

/-- The records that waiters in hand reserved are freed with them (R114, R116). -/
theorem freePins {ws : List Waiter} {C : Board} (h : Sound (ws ++ hand) B) (hway : C.way = B.way) (hbuf : C.buf = B.buf)
    (htxn : C.txn = B.txn)
    (hpin : ∀ i p, C.pin i = some p ↔ B.pin i = some p ∧ ∀ w ∈ ws, Waiter.pin? w ≠ some i) : Sound hand C := by
  have inHand (w : Waiter) : w ∈ ws ++ hand ↔ w ∈ ws ∨ w ∈ hand := List.mem_append
  exact
  { inSet := by rw [hway]; exact h.inSet
    oneWay := by rw [hway]; exact h.oneWay
    bufferAway := by rw [hway, hbuf]; exact h.bufferAway
    oneBuffer := by rw [hbuf]; exact h.oneBuffer
    bufferOwned := by rw [hbuf, htxn]; exact h.bufferOwned
    dropBuffered := by rw [hbuf, htxn]; exact h.dropBuffered
    onePerLine := by rw [htxn]; exact h.onePerLine
    kindInSet := by rw [htxn]; exact h.kindInSet
    entryHasWay := by rw [hway, htxn]; exact h.entryHasWay
    wayHasEntry := by rw [hway, htxn]; exact h.wayHasEntry
    cleaningHasEntry := by rw [hway, htxn]; exact h.cleaningHasEntry
    keepState := by rw [hway, htxn]; exact h.keepState
    onePin := by have := h.onePin; grind
    activeHolds := by have := h.activeHolds; grind
    oneActive := by have := h.oneActive; grind
    waitingListed := by rw [htxn]; have := h.waitingListed; grind
    listedWaits := by rw [htxn]; have := h.listedWaits; have := h.handApart; grind
    listBounded := by rw [htxn]; exact h.listBounded
    notedInFill := by rw [hway, htxn]; exact h.notedInFill
    handApart := by rw [htxn]; have := h.handApart; grind }

/-- An ACTIVE record is freed (R102). -/
theorem freeActive (h : Sound hand B) {i : Fin 4} {p : Pin} (hi : B.pin i = some p) (ha : p.isActive = true) :
    Sound hand (B.setPin i none) := by
  have notWaiting (l) : p.st ≠ .waiting l := by
    intro hl
    simp [Pin.isActive, hl] at ha
  exact { h with
    onePin := by have := h.onePin; grind
    activeHolds := by have := h.activeHolds; grind
    oneActive := by have := h.oneActive; grind
    waitingListed := by have := h.waitingListed; grind
    listedWaits := by have := h.listedWaits; grind }

/-- A waiter in hand without a pin record makes no difference. -/
theorem cons_iff {w : Waiter} (hw : Waiter.pin? w = none) : Sound (w :: hand) B ↔ Sound hand B := by
  have inHand (v : Waiter) : v ∈ w :: hand ↔ v = w ∨ v ∈ hand := List.mem_cons
  constructor
  · intro h
    exact { h with
      waitingListed := by have := h.waitingListed; grind
      handApart := by have := h.handApart; grind }
  · intro h
    exact { h with
      waitingListed := by have := h.waitingListed; grind
      handApart := by have := h.handApart; grind }

/-- The LOCK_READ in hand is performed: its record becomes ACTIVE on the way that holds its line in X or M (R115). -/
theorem activate {w : Waiter} (h : Sound (w :: hand) B) {i : Fin 4} {l : Loc} {d : Nat} {o : Option Pin}
    (hw : Waiter.pin? w = some i)
    (ho : o = (B.pin i).map fun p => { p with st := .active l d none })
    (hl : ∀ p, B.pin i = some p → Way.isExclusive p.line (B.way l) = true)
    (hown : ∀ j p q, B.pin i = some p → B.pin j = some q → q.isActive = true → q.line = p.line → q.owner = p.owner) :
    Sound hand (B.setPin i o) := by
  have inHand (v : Waiter) : v ∈ w :: hand ↔ v = w ∨ v ∈ hand := List.mem_cons
  have hp : (B.pin i = none ∧ o = none) ∨ ∃ p, B.pin i = some p ∧ o = some { p with st := .active l d none } := by
    rw [ho]
    cases B.pin i <;> simp
  exact { h with
    onePin := by have := h.onePin; grind
    activeHolds := by have := h.activeHolds; grind
    oneActive := by have := h.oneActive; have := h.onePin; grind
    waitingListed := by have := h.waitingListed; grind
    listedWaits := by have := h.listedWaits; have := h.handApart; grind
    handApart := by have := h.handApart; grind }

/-- The record of a waiter in hand, WAITING still, records a way (R114). -/
theorem recordWay (h : Sound hand B) {w : Waiter} {i : Fin 4} {p : Pin} {l : Option Loc} (hw : w ∈ hand)
    (hi : Waiter.pin? w = some i) (hp : B.pin i = some p) :
    Sound hand (B.setPin i (some { p with st := .waiting l })) := by
  exact { h with
    onePin := by have := h.onePin; grind
    activeHolds := by have := h.activeHolds; grind
    oneActive := by have := h.oneActive; grind [Pin.isActive]
    waitingListed := by have := h.waitingListed; grind
    listedWaits := by have := h.listedWaits; have := h.handApart; grind }

/-- A free record is reserved for a LOCK_READ in hand, its requester having none (R113). -/
theorem reserve (h : Sound hand B) {w : Waiter} {i : Fin 4} {x : Addr} (hw : Waiter.pin? w = some i)
    (hi : B.pin i = none) (hown : ∀ j q, B.pin j = some q → q.owner ≠ w.requester) :
    Sound (w :: hand) (B.setPin i (some { owner := w.requester, line := x, st := .waiting none })) := by
  have inHand (v : Waiter) : v ∈ w :: hand ↔ v = w ∨ v ∈ hand := List.mem_cons
  exact { h with
    onePin := by have := h.onePin; grind
    activeHolds := by have := h.activeHolds; grind
    oneActive := by have := h.oneActive; grind [Pin.isActive]
    waitingListed := by have := h.waitingListed; grind
    listedWaits := by have := h.listedWaits; grind
    handApart := by have := h.handApart; have := h.listedWaits; grind }

/-- A recall is deferred under the ACTIVE pin of its line (R99). -/
theorem defer (h : Sound hand B) {i : Fin 4} {p : Pin} {l : Loc} {d : Nat} {o : Option RecallRecord} {r : RecallRecord}
    (hi : B.pin i = some p) (hst : p.st = .active l d o) (hr : r.line = p.line) :
    Sound hand (B.setPin i (some { p with st := .active l d (some r) })) := by
  exact { h with
    onePin := by have := h.onePin; grind
    activeHolds := by have := h.activeHolds; grind
    oneActive := by have := h.oneActive; grind [Pin.isActive]
    waitingListed := by have := h.waitingListed; grind
    listedWaits := by have := h.listedWaits; grind }

/-! ### The bulk events -/

/-- Every waiter list is emptied and every WAITING record freed (R174). -/
theorem dropWaiters {C : Board} (h : Sound [] B) (hway : C.way = B.way) (hbuf : C.buf = B.buf)
    (htxn : ∀ g, C.txn g = (B.txn g).map fun t => { t with waiters := [] })
    (hpin : ∀ i, C.pin i = (B.pin i).filter Pin.isActive) : Sound [] C := by
  have old {g t} (ht : C.txn g = some t) : ∃ u, B.txn g = some u ∧ u.kind = t.kind ∧ u.noted = t.noted ∧
      t.waiters = [] := by
    rw [htxn, Option.map_eq_some_iff] at ht
    obtain ⟨u, hu, rfl⟩ := ht
    exact ⟨u, hu, rfl, rfl, rfl⟩
  have new {g u} (hu : B.txn g = some u) : ∃ t, C.txn g = some t ∧ u.kind = t.kind :=
    ⟨{ u with waiters := [] }, by rw [htxn, hu]; rfl, rfl⟩
  have pin {i p} (hp : C.pin i = some p) : B.pin i = some p ∧ p.isActive = true := by
    rwa [hpin, Option.filter_eq_some_iff] at hp
  exact
  { inSet := by rw [hway]; exact h.inSet
    oneWay := by rw [hway]; exact h.oneWay
    bufferAway := by rw [hway, hbuf]; exact h.bufferAway
    oneBuffer := by rw [hbuf]; exact h.oneBuffer
    bufferOwned := by
      rw [hbuf]
      intro i v hv
      obtain ⟨u, hu, hk⟩ := h.bufferOwned i v hv
      obtain ⟨t, ht, htk⟩ := new hu
      exact ⟨t, ht, htk ▸ hk⟩
    dropBuffered := by rw [hbuf]; have := h.dropBuffered; grind
    onePerLine := by have := h.onePerLine; grind
    kindInSet := by have := h.kindInSet; grind
    entryHasWay := by rw [hway]; have := h.entryHasWay; grind
    wayHasEntry := by
      rw [hway]
      intro l hl
      obtain ⟨g, u, hu, hk⟩ := h.wayHasEntry l hl
      obtain ⟨t, ht, htk⟩ := new hu
      exact ⟨g, t, ht, htk ▸ hk⟩
    cleaningHasEntry := by
      rw [hway]
      intro l x hl
      obtain ⟨g, u, hu, hk⟩ := h.cleaningHasEntry l x hl
      obtain ⟨t, ht, htk⟩ := new hu
      exact ⟨g, t, ht, htk ▸ hk⟩
    keepState := by rw [hway]; have := h.keepState; grind
    onePin := by have := h.onePin; grind
    activeHolds := by rw [hway]; have := h.activeHolds; grind
    oneActive := by have := h.oneActive; grind
    waitingListed := by
      intro i p l hp hl
      have := (pin hp).2
      simp [Pin.isActive, hl] at this
    listedWaits := by
      intro g t w i ht hw
      obtain ⟨u, -, -, -, hws⟩ := old ht
      rw [hws] at hw
      cases hw
    listBounded := by
      intro g t ht
      obtain ⟨u, -, -, -, hws⟩ := old ht
      simp [hws]
    notedInFill := by
      rw [hway]
      intro g t r ht hr
      obtain ⟨u, hu, hk, hn, -⟩ := old ht
      exact hk ▸ h.notedInFill g u r hu (hn.trans hr)
    handApart := nofun }

/-- Empty tables agree. -/
theorem of_empty (hway : ∀ l, B.way l = .i) (htxn : ∀ g, B.txn g = none) (hbuf : ∀ i, B.buf i = none)
    (hpin : ∀ i, B.pin i = none) : Sound [] B := by
  constructor <;> simp [hway, htxn, hbuf, hpin, Way.line?, Way.awaits, Way.cleaning?]

end Sound
end Sys2Proof.Machine
end

section
/-! SUPPORT. The law of coherence of a state in the terms of its four tables, with waiters and recalls in hand, and what
each state operation makes of it. -/

namespace Sys2Proof.Machine

open Sys2Proof.Safety

/-! ### Directory, lookup and entries -/

/-- A listed set is what its number reads as. -/
theorem readSet_of_mem {d : List (Fin 1024 × DirSet)} (h : dirWf d = true) {e : Fin 1024 × DirSet} (he : e ∈ d) :
    readSet d e.1 = e.2 := by
  induction d with
  | nil => cases he
  | cons f d ih =>
    obtain ⟨j, v⟩ := f
    obtain ⟨hlt, -, hd⟩ := dirWf_cons.1 h
    rcases List.mem_cons.1 he with rfl | he
    · simp [readSet]
    · rw [readSet, if_neg (hlt e he).ne, ih hd he]

/-- The lookup misses a line that no way of its set holds (R41). -/
theorem lookup_eq_none {s : State} {x : Addr} :
    s.lookup x = none ↔ ∀ l : Loc, l.set = setIndex x → (s.wayAt l).line? ≠ some x := by
  rw [State.lookup, Option.map_eq_none_iff, lowest_eq_none]
  constructor
  · rintro h ⟨i, v⟩ rfl
    exact beq_eq_false_iff_ne.1 (h v)
  · exact fun h v => beq_eq_false_iff_ne.2 (h ⟨setIndex x, v⟩ rfl)

/-- There is no lowest index: no entry satisfies the condition. -/
theorem lowest_isSome_eq_false {α : Type} {n : Nat} {v : Vector α n} {p : α → Bool} (h : (lowest v p).isSome = false)
    (i : Fin n) : p v[i] = false :=
  lowest_eq_none.1 (Option.isNone_iff_eq_none.1 (Option.isSome_eq_false_iff.1 h)) i

theorem txn?_eq_some {e : TxnEntry} {t : Txn} : TxnEntry.txn? e = some t ↔ e = .issued t := by
  cases e <;> simp [TxnEntry.txn?]

/-- A way that an entry names has its entry found (R38). -/
theorem fetchOf_isSome {s : State} {l : Loc} : (s.fetchOf l).isSome = true ↔
    ∃ g t, s.board.txn g = some t ∧ t.kind.fetchLoc? = some l := by
  constructor
  · intro h
    obtain ⟨⟨g, t⟩, hgt⟩ := Option.isSome_iff_exists.1 h
    obtain ⟨hg, hk, -⟩ := fetchOf_eq_some.1 hgt
    exact ⟨g, t, txn?_eq_some.2 hg, hk⟩
  · rintro ⟨g, t, hg, hk⟩
    unfold State.fetchOf
    split
    · next j hj =>
      have found := (lowest_eq_some.1 hj).1
      split
      · rfl
      · next hne =>
        split at found
        · next u hu => exact absurd hu (hne u)
        · cases found
    · next hn =>
      have := lowest_eq_none.1 hn g
      rw [txn?_eq_some.1 hg] at this
      simp [hk] at this

/-! ### Recalls -/

/-- The recalls that are unacknowledged, those of `rs` in hand among them, are counted, at most 8, and name different
lines (R92). -/
structure RecallForm (rs : List RecallRecord) (s : State) : Prop where
  counted : s.recallCount = (rs ++ s.unacknowledged).length
  atMost : s.recallCount ≤ 8
  oneEach : ((rs ++ s.unacknowledged).map RecallRecord.line).Nodup

/-- The law, with waiters and recalls in hand. -/
structure CoherentWith (hand : List Waiter) (rs : List RecallRecord) (s : State) : Prop where
  form : dirWf s.dir = true
  sound : Sound hand s.board
  recalls : RecallForm rs s

/-- With nothing in hand it is the law of coherence. -/
theorem coherentWith_of_coherent {s : State} (h : Coherent s) : CoherentWith [] [] s := by
  have holds {l : Loc} {x : Addr} (hx : (s.wayAt l).line? = some x) :
      (l.set, readSet s.dir l.set) ∈ s.dir ∧ x ∈ ((readSet s.dir l.set).ways[l.way]).line? := by
    refine ⟨mem_of_readSet_ne fun e => ?_, hx⟩
    rw [State.wayAt, e] at hx
    simp [DirSet.reset, Way.line?] at hx
  have inSet (l : Loc) (x : Addr) (hx : (s.wayAt l).line? = some x) : setIndex x = l.set ∧ x.toNat % 64 = 0 :=
    h.inSet _ (holds hx).1 l.way x (holds hx).2
  refine ⟨h.form, ?_, ⟨h.recallsCounted.1, h.recallsCounted.2, h.oneRecall⟩⟩
  exact
  { inSet := inSet
    oneWay := by
      rintro ⟨i, v⟩ ⟨j, w⟩ x hl hm
      obtain rfl : i = j := (inSet _ _ hl).1.symm.trans (inSet _ _ hm).1
      exact congrArg _ (h.oneWay _ (holds hl).1 v w x hl hm)
    bufferAway := fun i v l hv hl =>
      lookup_eq_none.1 (h.oneBuffer i v hv).1 l (inSet l _ hl).1.symm hl
    oneBuffer := fun i j v u hv hu => (h.oneBuffer i v hv).2 j u hu
    bufferOwned := h.bufferOwned
    dropBuffered := fun g t x i ht hk => h.dropBuffered g t ht x i hk
    onePerLine := fun g k t u x ht hu hx hy => h.onePerLine g k t ht u hu (by rw [hx]; rfl) (hx.trans hy.symm)
    kindInSet := fun g t x l ht hk => h.kindInSet g t ht x l hk
    entryHasWay := fun g t l ht hl => h.entryHasWay g t ht l hl
    wayHasEntry := fun l hl => fetchOf_isSome.1 (h.wayHasEntry l hl)
    cleaningHasEntry := h.cleaningHasEntry
    keepState := fun g t x l m ht hk hm => h.keepState g t ht x l hk m (lookup_of_holds h hm)
    onePin := fun i j p q hp hq => h.onePin i j p hp q hq
    activeHolds := fun i p l d r hp => h.activeHolds i p hp l d r
    oneActive := fun i j p q hp hq => h.oneActive i j p hp q hq
    waitingListed := fun i p l hp hl => .inr (h.waitingListed i p hp l hl)
    listedWaits := fun g t w i ht hw hi => h.listedWaits g t ht w hw i hi
    listBounded := fun g t ht => h.listBounded g t ht
    notedInFill := fun g t r ht hr => h.notedInFill g t ht r hr
    handApart := nofun }

theorem CoherentWith.coherent {s : State} (h : CoherentWith [] [] s) : Coherent s := by
  obtain ⟨hf, hs, hr⟩ := h
  have way {e : Fin 1024 × DirSet} (he : e ∈ s.dir) {w : Fin 4} {x : Addr} (hx : (e.2.ways[w]).line? = some x) :
      (s.board.way ⟨e.1, w⟩).line? = some x := by
    rw [← readSet_of_mem hf he] at hx
    exact hx
  exact
  { form := hf
    inSet := fun e he w x hx => hs.inSet ⟨e.1, w⟩ x (way he hx)
    oneWay := fun e he v w x hv hw =>
      congrArg Loc.way (hs.oneWay ⟨e.1, v⟩ ⟨e.1, w⟩ x (way he hv) (way he hw))
    oneBuffer := fun i v hv =>
      ⟨lookup_eq_none.2 fun l _ => hs.bufferAway i v l hv, fun j u hu => hs.oneBuffer i j v u hv hu⟩
    bufferOwned := hs.bufferOwned
    dropBuffered := fun g t ht x i hk => hs.dropBuffered g t x i ht hk
    onePerLine := fun g k t ht u hu hx hy => by
      obtain ⟨x, hx⟩ := Option.isSome_iff_exists.1 hx
      exact hs.onePerLine g k t u x ht hu hx (hy.symm.trans hx)
    kindInSet := fun g t ht x l hk => hs.kindInSet g t x l ht hk
    entryHasWay := fun g t ht l hl => hs.entryHasWay g t l ht hl
    wayHasEntry := fun l hl => fetchOf_isSome.2 (hs.wayHasEntry l hl)
    cleaningHasEntry := fun l x hl => hs.cleaningHasEntry l x hl
    keepState := fun g t ht x l hk m hm => hs.keepState g t x l m ht hk (lookup_eq_some.1 hm).2.1
    onePin := fun i j p hp q hq => hs.onePin i j p q hp hq
    activeHolds := fun i p hp l d r hst => hs.activeHolds i p l d r hp hst
    oneActive := fun i j p hp q hq => hs.oneActive i j p q hp hq
    waitingListed := fun i p hp l hl => (hs.waitingListed i p l hp hl).resolve_left (by simp)
    listedWaits := fun g t ht w hw i hi => hs.listedWaits g t w i ht hw hi
    listBounded := fun g t ht => hs.listBounded g t ht
    recallsCounted := ⟨hr.counted, hr.atMost⟩
    oneRecall := hr.oneEach
    notedInFill := fun g t ht r hn => hs.notedInFill g t r ht hn }

/-! ### What is kept when nothing of it changes -/

/-- What the law of coherence speaks of. -/
def State.bound (s : State) : List (Fin 1024 × DirSet) × Vector TxnEntry 32 × Vector (Option EvictionEntry) 4 ×
    Vector (Option Pin) 4 × List RecallRecord × Nat :=
  (s.dir, s.txns, s.eb, s.pins, s.recallQueue, s.recallCount)

/-- What the count of recalls speaks of. -/
def State.recalling (s : State) : Vector TxnEntry 32 × Vector (Option Pin) 4 × List RecallRecord × Nat :=
  (s.txns, s.pins, s.recallQueue, s.recallCount)

theorem unacknowledged_congr {s t : State} (hq : t.recallQueue = s.recallQueue) (ht : t.txns = s.txns)
    (hp : t.pins = s.pins) : t.unacknowledged = s.unacknowledged := by
  simp only [State.unacknowledged, State.notedRecalls, State.deferredRecalls, hq, ht, hp]

namespace RecallForm

variable {s t : State} {rs : List RecallRecord}

theorem of_same (h : RecallForm rs s) (ht : t.recalling = s.recalling) : RecallForm rs t := by
  simp only [State.recalling, Prod.mk.injEq] at ht
  obtain ⟨ht, hp, hq, hc⟩ := ht
  obtain ⟨h1, h2, h3⟩ := h
  rw [← unacknowledged_congr hq ht hp] at h1 h3
  exact ⟨hc.trans h1, hc ▸ h2, h3⟩

/-- Recalls are only moved between the hand and the tables. -/
theorem of_perm {qs : List RecallRecord} (h : RecallForm rs s) (hc : t.recallCount = s.recallCount)
    (hp : (qs ++ t.unacknowledged).Perm (rs ++ s.unacknowledged)) : RecallForm qs t where
  counted := hc.trans (h.counted.trans hp.length_eq.symm)
  atMost := hc ▸ h.atMost
  oneEach := (hp.map _).nodup_iff.2 h.oneEach

/-- The recall in hand is acknowledged (R92). -/
theorem ackRecall {r : RecallRecord} (h : RecallForm (r :: rs) s) (id : Byte) (st : AckStatus) :
    RecallForm rs (s.ackRecall id st) where
  counted := by
    have := h.counted
    simp only [List.cons_append, List.length_cons] at this
    exact Nat.sub_eq_of_eq_add this
  atMost := (Nat.sub_le _ _).trans h.atMost
  oneEach := (List.nodup_cons.1 h.oneEach).2

/-- A recall in hand is unlike those in the tables. -/
theorem line_ne {r v : RecallRecord} (h : RecallForm (r :: rs) s) (hv : v ∈ s.unacknowledged) : v.line ≠ r.line :=
  fun e => (List.nodup_cons.1 h.oneEach).1 (e ▸ List.mem_map_of_mem (List.mem_append_right _ hv))

end RecallForm

/-- What a table yields, with one entry replaced. -/
theorem filterMap_upd {α β : Type} {n : Nat} (f : α → Option β) (v : Vector α n) (i : Fin n) (x : α) :
    ((f v[i]).toList ++ (upd v i x).toList.filterMap f).Perm ((f x).toList ++ v.toList.filterMap f) := by
  have hi : i.val < v.toList.length := by simp
  have old : v.toList = v.toList.take i ++ v[i] :: v.toList.drop (i + 1) := by
    conv_lhs => rw [← List.take_append_drop i v.toList, List.drop_eq_getElem_cons hi]
    simp
  have new : (upd v i x).toList = v.toList.take i ++ x :: v.toList.drop (i + 1) := by
    rw [upd, Vector.toList_set, List.set_eq_take_append_cons_drop, if_pos hi]
  have move (y : α) (a b : List α) :
      ((a ++ y :: b).filterMap f).Perm ((f y).toList ++ (a.filterMap f ++ b.filterMap f)) := by
    rw [List.filterMap_append]
    cases hy : f y with
    | none => simp [hy]
    | some z => simp [hy]
  rw [new]
  conv_rhs => rw [old]
  refine ((move x _ _).append_left _).trans (.trans ?_ ((move v[i] _ _).symm.append_left _))
  simp only [← List.append_assoc]
  exact (List.perm_append_comm.append_right _).append_right _

/-- The two tables that hold recalls yield what they did before. -/
theorem RecallForm.of_congr {s t : State} {rs : List RecallRecord} (h : RecallForm rs s)
    (hq : t.recallQueue = s.recallQueue) (hc : t.recallCount = s.recallCount)
    (ht : ∀ g : Tag, t.txns[g].noted? = s.txns[g].noted?)
    (hp : ∀ i : Fin 4, (t.pins[i]).bind Pin.deferred? = (s.pins[i]).bind Pin.deferred?) : RecallForm rs t := by
  have deferred := filterMap_table_congr (u := t.pins) (v := s.pins) (f := fun p => p.bind Pin.deferred?) hp
  have same : t.unacknowledged = s.unacknowledged := by
    simp only [State.unacknowledged, State.notedRecalls, State.deferredRecalls, hq, filterMap_table_congr ht, deferred]
  obtain ⟨h1, h2, h3⟩ := h
  rw [← same] at h1 h3
  exact ⟨hc.trans h1, hc ▸ h2, h3⟩

/-- An entry is replaced: its noted recall comes to hand, and the new one leaves it. -/
theorem RecallForm.setEntry {s t : State} {rs : List RecallRecord} {g : Tag} {e : TxnEntry}
    (h : RecallForm (e.noted?.toList ++ rs) s)
    (ht : t.recalling = (upd s.txns g e, s.pins, s.recallQueue, s.recallCount)) :
    RecallForm (s.txns[g].noted?.toList ++ rs) t := by
  simp only [State.recalling, Prod.mk.injEq] at ht
  obtain ⟨ht, hp, hq, hc⟩ := ht
  have noted := filterMap_upd TxnEntry.noted? s.txns g e
  rw [← ht] at noted
  refine h.of_perm hc ?_
  simp only [State.unacknowledged, State.notedRecalls, State.deferredRecalls, hp, hq]
  rw [List.perm_iff_count] at noted ⊢
  intro r
  have := noted r
  simp only [List.count_append] at this ⊢
  omega

/-- A pin record is replaced: its deferred recall comes to hand, and the new one leaves it. -/
theorem RecallForm.setPin {s t : State} {rs : List RecallRecord} {i : Fin 4} {p : Option Pin}
    (h : RecallForm ((p.bind Pin.deferred?).toList ++ rs) s)
    (ht : t.recalling = (s.txns, upd s.pins i p, s.recallQueue, s.recallCount)) :
    RecallForm (((s.pins[i]).bind Pin.deferred?).toList ++ rs) t := by
  simp only [State.recalling, Prod.mk.injEq] at ht
  obtain ⟨ht, hp, hq, hc⟩ := ht
  have deferred := filterMap_upd (fun p => p.bind Pin.deferred?) s.pins i p
  rw [← hp] at deferred
  refine h.of_perm hc ?_
  simp only [State.unacknowledged, State.notedRecalls, State.deferredRecalls, ht, hq]
  rw [List.perm_iff_count] at deferred ⊢
  intro r
  have := deferred r
  simp only [List.count_append] at this ⊢
  omega

/-! ### The four tables after a change of the state -/

section

variable {s t : State}

theorem wayAt_congr (h : t.dir = s.dir) (l : Loc) : t.wayAt l = s.wayAt l := by
  rw [State.wayAt, h]
  rfl

theorem way_same (h : t.dir = s.dir) : t.board.way = s.board.way := funext (wayAt_congr h)

theorem way_putWay (hf : dirWf s.dir = true) {l : Loc} {w : Way} (h : t.dir = (s.putWay l w).dir) :
    t.board.way = (s.board.setWay l w).way :=
  funext fun m => (wayAt_congr h m).trans (wayAt_putWay s l m w hf)

theorem txn_same (h : t.txns = s.txns) : t.board.txn = s.board.txn := by
  unfold State.board
  rw [h]

theorem txn_upd {g : Tag} {e : TxnEntry} (h : t.txns = upd s.txns g e) :
    t.board.txn = (s.board.setTxn g (TxnEntry.txn? e)).txn := by
  refine funext fun k => ?_
  show TxnEntry.txn? t.txns[k] = if g = k then TxnEntry.txn? e else TxnEntry.txn? s.txns[k]
  rw [h, upd_get]
  exact apply_ite TxnEntry.txn? ..

theorem buf_same (h : t.eb = s.eb) : t.board.buf = s.board.buf := by
  unfold State.board
  rw [h]

theorem buf_upd {i : Fin 4} {v : Option EvictionEntry} (h : t.eb = upd s.eb i v) :
    t.board.buf = (s.board.setBuf i v).buf := by
  refine funext fun j => ?_
  show t.eb[j] = if i = j then v else s.eb[j]
  rw [h, upd_get]

theorem pin_same (h : t.pins = s.pins) : t.board.pin = s.board.pin := by
  unfold State.board
  rw [h]

theorem pin_upd {i : Fin 4} {p : Option Pin} (h : t.pins = upd s.pins i p) :
    t.board.pin = (s.board.setPin i p).pin := by
  refine funext fun j => ?_
  show t.pins[j] = if i = j then p else s.pins[j]
  rw [h, upd_get]

theorem bound_eq {d : List (Fin 1024 × DirSet)} {txns : Vector TxnEntry 32} {eb : Vector (Option EvictionEntry) 4}
    {pins : Vector (Option Pin) 4} {q : List RecallRecord} {c : Nat} : s.bound = (d, txns, eb, pins, q, c) ↔
      s.dir = d ∧ s.txns = txns ∧ s.eb = eb ∧ s.pins = pins ∧ s.recallQueue = q ∧ s.recallCount = c := by
  simp only [State.bound, Prod.mk.injEq]

theorem recalling_eq (ht : t.txns = s.txns) (hp : t.pins = s.pins) (hq : t.recallQueue = s.recallQueue)
    (hc : t.recallCount = s.recallCount) : t.recalling = s.recalling := by
  simp only [State.recalling, ht, hp, hq, hc]

end

/-- The ACTIVE record on a way (R39). -/
theorem activePinAt_eq_some {s : State} {l : Loc} {i : Fin 4} (h : s.activePinAt l = some i) :
    ∃ p, s.pins[i] = some p ∧ ∃ d o, p.st = .active l d o := by
  obtain ⟨p, hp, ha⟩ := (Option.any_eq_true _ _).1 (lowest_eq_some.1 h).1
  refine ⟨p, hp, ?_⟩
  unfold Pin.activeAt at ha
  split at ha
  · next d o hst => exact ⟨d, o, (beq_iff_eq.1 ha) ▸ hst⟩
  · cases ha

/-- No record is ACTIVE on the way. -/
theorem activePinAt_eq_none {s : State} {l : Loc} (h : s.activePinAt l = none) (i : Fin 4) (p : Pin) (m : Loc) (d : Nat)
    (o : Option RecallRecord) (hi : s.pins[i] = some p) (hst : p.st = .active m d o) : m ≠ l := by
  rintro rfl
  have := lowest_eq_none.1 h i
  rw [hi] at this
  simp [Pin.activeAt, hst] at this

namespace CoherentWith

variable {s t : State} {hand : List Waiter} {rs : List RecallRecord}

theorem of_same (h : CoherentWith hand rs s) (ht : t.bound = s.bound) : CoherentWith hand rs t := by
  obtain ⟨hd, ht, he, hp, hq, hc⟩ := bound_eq.1 ht
  have hb : t.board = s.board := Board.ext (way_same hd) (txn_same ht) (buf_same he) (pin_same hp)
  exact ⟨hd ▸ h.form, hb ▸ h.sound, h.recalls.of_same (recalling_eq ht hp hq hc)⟩

/-- A way moves to the front (R40). -/
theorem touch (h : CoherentWith hand rs s) {l : Loc} (ht : t.bound = (s.touch l).bound) : CoherentWith hand rs t := by
  refine of_same (s := s.touch l) ⟨dirWf_touch s l h.form, ?_, h.recalls.of_same rfl⟩ ht
  have hb : (s.touch l).board = s.board :=
    Board.ext (funext fun m => wayAt_touch s l m h.form) rfl rfl rfl
  exact hb ▸ h.sound

/-- A recall in hand is acknowledged. -/
theorem ackRecall {r : RecallRecord} (h : CoherentWith hand (r :: rs) s) (id : Byte) (st : AckStatus) :
    CoherentWith hand rs (s.ackRecall id st) := ⟨h.form, h.sound, h.recalls.ackRecall id st⟩

/-- A way is replaced. -/
theorem putWay (h : CoherentWith hand rs s) {l : Loc} {w : Way} (hs : Sound hand (s.board.setWay l w))
    (ht : t.bound = (s.putWay l w).bound) : CoherentWith hand rs t := by
  refine of_same (s := s.putWay l w) ⟨dirWf_putWay s l w h.form, ?_, h.recalls.of_same rfl⟩ ht
  have hb : (s.putWay l w).board = s.board.setWay l w := Board.ext (way_putWay h.form rfl) rfl rfl rfl
  exact hb ▸ hs

/-- A way and an entry are replaced, the entry's noted recall stays. -/
theorem putWayEntry (h : CoherentWith hand rs s) {hand' : List Waiter} {l : Loc} {w : Way} {g : Tag} {e : TxnEntry}
    (hs : Sound hand' ((s.board.setWay l w).setTxn g (TxnEntry.txn? e))) (hn : e.noted? = s.txns[g].noted?)
    (ht : t.bound = ((s.putWay l w).dir, upd s.txns g e, s.eb, s.pins, s.recallQueue, s.recallCount)) :
    CoherentWith hand' rs t := by
  obtain ⟨hd, ht, he, hp, hq, hc⟩ := bound_eq.1 ht
  refine ⟨hd ▸ dirWf_putWay s l w h.form, ?_, h.recalls.of_congr hq hc (fun k => ?_) fun i => by rw [hp]⟩
  · have hb : t.board = (s.board.setWay l w).setTxn g (TxnEntry.txn? e) :=
      Board.ext (way_putWay h.form hd) (txn_upd ht) (buf_same he) (pin_same hp)
    exact hb ▸ hs
  · rw [ht, upd_get]
    split
    · next h => exact h ▸ hn
    · rfl

/-- An entry is replaced, its noted recall and the one in hand with it. -/
theorem putEntry {hand' : List Waiter} {g : Tag} {e : TxnEntry} (h : CoherentWith hand (e.noted?.toList ++ rs) s)
    (hs : Sound hand' (s.board.setTxn g (TxnEntry.txn? e)))
    (ht : t.bound = (s.dir, upd s.txns g e, s.eb, s.pins, s.recallQueue, s.recallCount)) :
    CoherentWith hand' (s.txns[g].noted?.toList ++ rs) t := by
  obtain ⟨hd, ht, he, hp, hq, hc⟩ := bound_eq.1 ht
  refine ⟨hd ▸ h.form, ?_, h.recalls.setEntry (by simp only [State.recalling, ht, hp, hq, hc])⟩
  have hb : t.board = s.board.setTxn g (TxnEntry.txn? e) :=
    Board.ext (way_same hd) (txn_upd ht) (buf_same he) (pin_same hp)
  exact hb ▸ hs

/-- A pin record is replaced, its deferred recall and the one in hand with it. -/
theorem putPin {hand' : List Waiter} {i : Fin 4} {p : Option Pin}
    (h : CoherentWith hand ((p.bind Pin.deferred?).toList ++ rs) s) (hs : Sound hand' (s.board.setPin i p))
    (ht : t.bound = (s.dir, s.txns, s.eb, upd s.pins i p, s.recallQueue, s.recallCount)) :
    CoherentWith hand' (((s.pins[i]).bind Pin.deferred?).toList ++ rs) t := by
  obtain ⟨hd, ht, he, hp, hq, hc⟩ := bound_eq.1 ht
  refine ⟨hd ▸ h.form, ?_, h.recalls.setPin (by simp only [State.recalling, ht, hp, hq, hc])⟩
  have hb : t.board = s.board.setPin i p := Board.ext (way_same hd) (txn_same ht) (buf_same he) (pin_upd hp)
  exact hb ▸ hs

/-! ### Recalls (R94 to R99) -/

/-- A way in FILL or UPGRADE has its entry (R38). -/
theorem entry_of_awaits (h : CoherentWith hand rs s) {l : Loc} (ha : Way.awaits (s.wayAt l) = true) :
    ∃ g u x, s.fetchOf l = some (g, u) ∧ s.txns[g] = .issued u ∧ u.kind.fetchLoc? = some l ∧
      WayMatches (s.wayAt l) u.kind ∧ u.kind.line? = some x ∧ (s.wayAt l).line? = some x := by
  obtain ⟨⟨g, u⟩, hf⟩ := Option.isSome_iff_exists.1 (fetchOf_isSome.2 (h.sound.wayHasEntry l ha))
  obtain ⟨hg, hk, -⟩ := fetchOf_eq_some.1 hf
  obtain ⟨-, x, hx, hkx⟩ := h.sound.entry_awaits (txn?_eq_some.2 hg) hk
  exact ⟨g, u, x, hf, hg, hk, h.sound.entryHasWay g u l (txn?_eq_some.2 hg) hk, hkx, hx⟩

theorem mem_noted {g : Tag} {u : Txn} {r : RecallRecord} (hg : s.txns[g] = .issued u) (hr : u.noted = some r) :
    r ∈ s.unacknowledged := by
  refine List.mem_append_left _ (List.mem_append_right _ (List.mem_filterMap.2 ⟨s.txns[g], ?_, by rw [hg]; exact hr⟩))
  simp

theorem mem_deferred {i : Fin 4} {p : Pin} {r : RecallRecord} (hi : s.pins[i] = some p) (hr : p.deferred? = some r) :
    r ∈ s.unacknowledged := by
  refine List.mem_append_right _ (List.mem_filterMap.2 ⟨s.pins[i], ?_, by rw [hi]; exact hr⟩)
  simp

/-- A recall that finds its line in FILL is noted (R97). -/
theorem noteRecall {r : RecallRecord} (h : CoherentWith [] (r :: rs) s) {l : Loc} (hw : s.wayAt l = .fill r.line) :
    CoherentWith [] rs (s.noteRecall l r) := by
  obtain ⟨g, u, x, hf, hg, hk, hm, hx, hl⟩ := h.entry_of_awaits (l := l) (by rw [hw]; rfl)
  obtain rfl : r.line = x := by rw [hw] at hl; exact Option.some.inj hl
  have notNoted : u.noted = none := by
    refine Option.eq_none_iff_forall_ne_some.2 fun v hv => h.recalls.line_ne (mem_noted hg hv) ?_
    have hv' := (h.sound.notedInFill g u v (txn?_eq_some.2 hg) hv).1
    exact Option.some.inj (hv'.symm.trans hx)
  have old : s.txns[g].noted? = none := by rw [hg]; exact notNoted
  have noted := putEntry (g := g) (e := .issued { u with noted := some r }) (t := s.noteRecall l r) (hand' := []) h ?_
    (by rw [noteRecall_eq hf]; rfl)
  · rwa [old] at noted
  · have same : s.board.setWay l (s.wayAt l) = s.board := Board.setWay_self ..
    rw [← same]
    refine h.sound.reenter (ws := []) (txn?_eq_some.2 hg) hk hk rfl hm (by simp)
      (h.sound.listBounded g u (txn?_eq_some.2 hg)).1 ?_ (by simp)
    rintro v hv
    obtain rfl : r = v := Option.some.inj hv
    exact ⟨hx, hw⟩

/-- A recall that finds its line under an ACTIVE pin is deferred (R99). -/
theorem deferRecall {r : RecallRecord} (h : CoherentWith hand (r :: rs) s) {i : Fin 4} {p : Pin} {l : Loc} {d : Nat}
    {o : Option RecallRecord} (hi : s.pins[i] = some p) (hp : p.st = .active l d o)
    (hl : (s.wayAt l).line? = some r.line) : CoherentWith hand rs (s.deferRecall i r) := by
  obtain ⟨hex, ho⟩ := h.sound.activeHolds i p l d o hi hp
  have line : r.line = p.line := Option.some.inj (hl.symm.trans (of_isExclusive hex).1)
  have notDeferred : p.deferred? = none := by
    refine Option.eq_none_iff_forall_ne_some.2 fun v hv => h.recalls.line_ne (mem_deferred hi hv) ?_
    rw [Pin.deferred?, hp] at hv
    exact (ho v hv).trans line.symm
  have old : (s.pins[i]).bind Pin.deferred? = none := by rw [hi]; exact notDeferred
  have deferred := putPin (i := i) (p := some { p with st := .active l d (some r) }) (t := s.deferRecall i r)
    (hand' := hand) h (h.sound.defer hi hp line) (by rw [deferRecall_eq hi hp]; rfl)
  rwa [old] at deferred

/-- A recall that finds a copy, not under an ACTIVE pin, takes or reduces it (R95, R96, R98). -/
theorem recallCopy {r : RecallRecord} (h : CoherentWith [] (r :: rs) s) {l : Loc} {st : CopyState} {data : LineData}
    (hw : s.wayAt l = .copy st r.line data)
    (hp : ∀ (i : Fin 4) (p : Pin) m d o, s.pins[i] = some p → p.st = .active m d o → m ≠ l) :
    CoherentWith [] rs (s.recallCopy l r st r.line data) := by
  by_cases hst : st = .upgrade
  · subst hst
    obtain ⟨g, u, x, hf, hg, hk, hm, hx, hl⟩ := h.entry_of_awaits (l := l) (by rw [hw]; rfl)
    obtain rfl : r.line = x := by rw [hw] at hl; exact Option.some.inj hl
    simp only [State.recallCopy]
    split
    · exact h.ackRecall ..
    · have kind : u.kind = .upgrade r.line l false := by
        rw [hw] at hm
        cases hu : u.kind with
        | fetchS | fetchX => rw [hu] at hm; cases hm
        | upgrade y m b =>
          rw [hu] at hm hk hx
          cases hk
          cases hx
          cases b with
          | false => rfl
          | true => cases hm
        | _ => rw [hu] at hk; cases hk
      have notNoted : u.noted = none := by
        refine Option.eq_none_iff_forall_ne_some.2 fun v hv => ?_
        obtain ⟨-, m, hm', hfill⟩ := h.sound.notedInFill g u v (txn?_eq_some.2 hg) hv
        obtain rfl : l = m := Option.some.inj (hk.symm.trans hm')
        cases hw.symm.trans hfill
      refine ackRecall (r := r) ?_ ..
      rw [markCopyLost_eq (s := s.putWay l (.fill r.line)) hf kind]
      refine h.putWayEntry (w := .fill r.line) (e := .issued { u with kind := .upgrade r.line l true }) ?_ ?_ rfl
      · refine h.sound.reenter (ws := []) (txn?_eq_some.2 hg) hk rfl hx.symm rfl (by simp)
          (h.sound.listBounded g u (txn?_eq_some.2 hg)).1 ?_ (by simp)
        rintro v hv
        cases notNoted.symm.trans hv
      · rw [hg]
        rfl
  · have put : CoherentWith [] (r :: rs) (s.putWay l (afterRecall r.kind r.line data)) := by
      refine h.putWay (h.sound.setWay ?_ ?_ ?_ ?_ ?_ ?_) rfl
      · show _ ∨ _ = (s.wayAt l).line?
        rw [hw]
        cases r.kind <;> simp [afterRecall, Way.line?]
      · show Way.awaits (s.wayAt l) = false
        rw [hw]
        cases st <;> first | rfl | exact absurd rfl hst
      · cases r.kind <;> rfl
      · cases r.kind <;> rfl
      · cases r.kind <;> simp [afterRecall, Way.line?, Way.isCleaned]
      · exact fun i p d o hi ho => absurd rfl (hp i p l d o hi ho)
    rw [recallCopy_stable hst]
    exact (put.ackRecall r.id (recallAck (s.writebackPending r.line) st data)).of_same rfl

/-- A recall is applied to its line as it stands (R94). -/
theorem applyRecall {r : RecallRecord} (h : CoherentWith [] (r :: rs) s) : CoherentWith [] rs (s.applyRecall r) := by
  cases hl : s.lookup r.line with
  | none =>
    rw [applyRecall_absent hl]
    exact h.ackRecall ..
  | some l =>
    have hx := (lookup_eq_some.1 hl).2.1
    cases hp : s.activePinAt l with
    | some i =>
      rw [applyRecall_pinned hl hp]
      obtain ⟨p, hi, d, o, hst⟩ := activePinAt_eq_some hp
      exact h.deferRecall hi hst hx
    | none =>
      cases hw : s.wayAt l with
      | i => rw [hw] at hx; cases hx
      | fill x =>
        obtain rfl : x = r.line := by rw [hw] at hx; exact Option.some.inj hx
        rw [applyRecall_fill hl hp hw]
        exact h.noteRecall hw
      | copy st x data =>
        obtain rfl : x = r.line := by rw [hw] at hx; exact Option.some.inj hx
        rw [applyRecall_copy hl hp hw]
        exact h.recallCopy hw (activePinAt_eq_none hp)

theorem applyHeldRecall {o : Option RecallRecord} (h : CoherentWith [] (o.toList ++ rs) s) :
    CoherentWith [] rs (s.applyHeldRecall o) := by
  cases o with
  | none => exact h
  | some r => exact applyRecall h

/-- The recall at the head of the queue is taken (R94, R100). -/
theorem takeRecall (h : CoherentWith [] rs s) (k : RecallKind) : CoherentWith [] rs (s.takeRecall k) := by
  unfold State.takeRecall
  split
  · next r rest hq =>
    split
    · have taken : CoherentWith [] (r :: rs) { s with recallQueue := rest } := by
        refine ⟨h.form, h.sound, h.recalls.of_perm rfl ?_⟩
        simp only [State.unacknowledged, hq, List.cons_append]
        exact List.perm_middle.symm
      dsimp only
      split
      · exact taken.ackRecall ..
      · exact taken.applyRecall
    · exact h
  · exact h

/-- An arrived recall that passes the checks joins the queue (R93). -/
theorem examineRecall (h : CoherentWith hand [] s) (p : Packet) : CoherentWith hand [] (s.examineRecall p) := by
  unfold State.examineRecall State.checkRecall
  dsimp only
  split
  · exact h.of_same rfl
  · split
    · exact h.of_same rfl
    · next hroom =>
      split
      · exact h.of_same rfl
      · split
        · exact h.of_same rfl
        · split
          · exact h.of_same rfl
          · next hnew =>
            refine ⟨h.form, h.sound, ?_⟩
            obtain ⟨hc, -, hone⟩ := h.recalls
            have new : ∀ v ∈ s.unacknowledged, v.line ≠ recallLineOf p := by simpa using hnew
            have perm (r : RecallRecord) : (s.recallQueue ++ [r] ++ s.notedRecalls ++ s.deferredRecalls).Perm
                (r :: s.unacknowledged) := by
              simp only [State.unacknowledged, List.append_assoc]
              exact List.perm_middle
            refine ⟨?_, Nat.lt_of_not_le hroom, ?_⟩
            · exact (congrArg (· + 1) hc).trans (perm _).length_eq.symm
            · refine ((perm _).map RecallRecord.line).nodup_iff.2 (List.nodup_cons.2 ⟨?_, hone⟩)
              rintro hm
              obtain ⟨v, hv, hvx⟩ := List.mem_map.1 hm
              exact new v hv hvx

theorem examineRecalls (h : CoherentWith hand [] s) : CoherentWith hand [] s.examineRecalls := by
  have all (l : List Packet) : ∀ {t : State}, CoherentWith hand [] t →
      CoherentWith hand [] (l.foldl State.examineRecall t) := by
    induction l with
    | nil => exact id
    | cons p l ih => exact fun ht => ih (ht.examineRecall p)
  exact all _ (h.of_same rfl)

/-! ### The end of a pin (R102, R119, R120) -/

/-- An ACTIVE record is freed, its deferred recall in hand. -/
theorem freeActive (h : CoherentWith hand rs s) {i : Fin 4} {p : Pin} {l : Loc} {d : Nat} {o : Option RecallRecord}
    (hi : s.pins[i] = some p) (hp : p.st = .active l d o) : CoherentWith hand (o.toList ++ rs) (s.putPin i none) := by
  have freed := putPin (p := none) (t := s.putPin i none) (hand' := hand) h
    (h.sound.freeActive hi (by rw [Pin.isActive, hp])) rfl
  have old : (s.pins[i]).bind Pin.deferred? = o := by
    rw [hi]
    show p.deferred? = o
    rw [Pin.deferred?, hp]
  rwa [old] at freed

theorem endPin (h : CoherentWith [] rs s) {i : Fin 4} {p : Pin} {l : Loc} {d : Nat} {o : Option RecallRecord}
    (hi : s.pins[i] = some p) (hp : p.st = .active l d o) : CoherentWith [] rs (s.endPin i o) :=
  (h.freeActive hi hp).applyHeldRecall

theorem expirePin (h : CoherentWith [] rs s) (i : Fin 4) : CoherentWith [] rs (s.expirePin i) := by
  unfold State.expirePin
  split
  · next p hi =>
    split
    · next l d o hp =>
      split
      · exact (h.endPin hi hp).of_same rfl
      · exact h
    · exact h
  · exact h

/-- A line in X or M is written, or its way stays (R44, R119). -/
theorem putExclusive (h : CoherentWith hand rs s) {l : Loc} {x : Addr} {w : Way}
    (hl : Way.isExclusive x (s.wayAt l) = true) (hw : Way.isExclusive x w = true)
    (ht : t.bound = (s.putWay l w).bound) : CoherentWith hand rs t := h.putWay (h.sound.setExclusive hl hw) ht

theorem unlockStep (h : CoherentWith [] rs s) (q : Request) (mask : List Bool) (bytes : List Byte) :
    CoherentWith [] rs (s.unlockStep q mask bytes) := by
  unfold State.unlockStep State.performUnlock
  split
  · next i _ =>
    split
    · next p hi =>
      split
      · next l d o hp =>
        have hex : Way.isExclusive p.line (s.wayAt l) = true := (h.sound.activeHolds i p l d o hi hp).1
        have ended {u : State} (hu : CoherentWith [] rs u) (hpins : u.pins = s.pins) :
            CoherentWith [] rs (((u.putPin i none).answer q .ok).applyHeldRecall o) :=
          ((hu.freeActive (hpins ▸ hi) hp).of_same (t := (u.putPin i none).answer q .ok) rfl).applyHeldRecall
        refine ended ?_ ?_
        · split
          · next st x data hw =>
            refine h.putExclusive hex ?_ rfl
            obtain ⟨rfl, hst⟩ := isExclusive_copy_iff.1 (hw ▸ hex)
            exact isExclusive_copy_iff.2 ⟨rfl, by unfold unlockedState; split <;> simp [hst]⟩
          · exact h
        · split <;> rfl
      · exact h
    · exact h
  · exact h.of_same rfl

end CoherentWith

end Sys2Proof.Machine
end

section
/-! SUPPORT. Requests at the directory and at copy removal keep the law of coherence (R28 to R32, R42 to R51, R113 to
R115). -/

namespace Sys2Proof.Machine

open Sys2Proof.Safety

/-! ### The request's pin record -/

/-- The record that a LOCK_READ reserved, where it is held, is its requester's on the line, with no deferred recall. -/
def HoldsPin (s : State) (x : Addr) (w : Waiter) : Prop :=
  ∀ (i : Fin 4) (p : Pin), Waiter.pin? w = some i → s.pins[i] = some p →
    p.owner = w.requester ∧ p.line = x ∧ p.deferred? = none

/-- The record that a LOCK_READ reserved is its requester's on the line, WAITING (R113). -/
def WaitsWithPin (s : State) (x : Addr) (l : Option Loc) (w : Waiter) : Prop :=
  ∀ i : Fin 4, Waiter.pin? w = some i →
    ∃ p, s.pins[i] = some p ∧ p.owner = w.requester ∧ p.line = x ∧ p.st = .waiting l

theorem WaitsWithPin.holds {s : State} {x : Addr} {l : Option Loc} {w : Waiter} (h : WaitsWithPin s x l w) :
    HoldsPin s x w := by
  intro i p hi hp
  obtain ⟨q, hq, ho, hl, hst⟩ := h i hi
  obtain rfl : p = q := Option.some.inj (hp.symm.trans hq)
  exact ⟨ho, hl, by rw [Pin.deferred?, hst]⟩

/-- The pin table with a LOCK_READ's record WAITING on the way (R114). -/
def pinsNaming (pins : Vector (Option Pin) 4) (w : Waiter) (l : Loc) : Vector (Option Pin) 4 :=
  match Waiter.pin? w with
  | some i => upd pins i ((pins[i]).map fun p => { p with st := .waiting (some l) })
  | none => pins

theorem recordWay_eq (s : State) (w : Waiter) (l : Loc) :
    s.recordWay w l = { s with pins := pinsNaming s.pins w l } := by
  cases hw : w.access with
  | lockRead len i =>
    have hp : Waiter.pin? w = some i := by rw [Waiter.pin?, hw]
    simp only [State.recordWay, hw, pinsNaming, hp]
    cases hi : s.pins[i] with
    | none =>
      have same : upd s.pins i none = s.pins := by rw [← hi, upd_self]
      rw [Option.map_none, same]
    | some p => rfl
  | _ => simp only [State.recordWay, hw, pinsNaming, Waiter.pin?]

/-- An ACTIVE record behind the naming was there before it. -/
theorem active_of_pinsNaming {pins : Vector (Option Pin) 4} {w : Waiter} {l m : Loc} {i : Fin 4} {p : Pin} {d : Nat}
    {r : Option RecallRecord} (hi : (pinsNaming pins w l)[i] = some p) (hp : p.st = .active m d r) :
    pins[i] = some p := by
  unfold pinsNaming at hi
  split at hi
  · rw [upd_get] at hi
    split at hi
    · obtain ⟨q, -, rfl⟩ := Option.map_eq_some_iff.1 hi
      cases hp
    · exact hi
  · exact hi

/-- The way may be taken to fetch or upgrade the line: it awaits nothing and no ACTIVE pin keeps it, and the line is in
no other way, in no buffer entry, and named by no ISSUED entry. -/
structure MayFetch (s : State) (x : Addr) (l : Loc) : Prop where
  rests : Way.awaits (s.wayAt l) = false
  unpinned : ∀ (i : Fin 4) (p : Pin) d r, s.pins[i] = some p → p.st ≠ .active l d r
  inSet : setIndex x = l.set ∧ x.toNat % 64 = 0
  nowhere : ∀ m, (s.wayAt m).line? = some x → m = l
  notLeaving : ∀ (j : Fin 4) e, s.eb[j] = some e → e.line ≠ x
  noEntry : ∀ (k : Tag) e, s.txns[k] = .issued e → e.kind.line? ≠ some x

/-- A line address is a multiple of 64. -/
theorem lineOf_aligned (a : Addr) : (lineOf a).toNat % 64 = 0 := by
  have low : (lineOf a).setWidth 6 = 0#6 := by
    rw [lineOf, BitVec.setWidth_and]
    exact BitVec.and_zero
  simpa using congrArg BitVec.toNat low

/-- A way in FILL or UPGRADE is busy and no victim (R31, R49). -/
theorem isBusy_of_awaits {v : Way} (h : Way.awaits v = true) : v.isBusy = true ∧ v.isStable = false := by
  cases v with
  | i => cases h
  | fill => exact ⟨rfl, rfl⟩
  | copy st =>
    cases st with
    | upgrade => exact ⟨rfl, rfl⟩
    | _ => cases h

/-- The watch check leaves what the law speaks of as it is (R131, R133, R135). -/
theorem watchCheck_bound {s t : State} {q : Request} (h : s.watchCheck q = .pass t ∨ s.watchCheck q = .stopped t) :
    t.bound = s.bound := by
  have captured (slot) : ((s.countHits q).captureRequest q (s.matching q) slot).bound = s.bound := by
    unfold State.captureRequest
    split <;> rfl
  unfold State.watchCheck at h
  dsimp only at h
  split at h
  · split at h <;> simp only [reduceCtorEq, WatchOutcome.stopped.injEq, false_or] at h <;> subst h
    · exact captured _
    · exact captured _
  · split at h <;> simp only [reduceCtorEq, WatchOutcome.pass.injEq, or_false] at h <;> subst h
    · exact captured _
    · rfl

namespace CoherentWith

variable {s t : State} {hand : List Waiter} {rs : List RecallRecord} {w : Waiter} {x : Addr} {l : Loc}

/-- The records of waiters in hand are freed with them (R116). -/
theorem freePins {ws : List Waiter} (h : CoherentWith (ws ++ hand) rs s) (hp : ∀ w ∈ ws, HoldsPin s x w)
    (ht : t.bound = (s.dir, s.txns, s.eb, pinsWithout s.pins ws, s.recallQueue, s.recallCount)) :
    CoherentWith hand rs t := by
  obtain ⟨hd, ht, he, hpins, hq, hc⟩ := bound_eq.1 ht
  have get (i : Fin 4) : t.pins[i] = if ∃ w ∈ ws, Waiter.pin? w = some i then none else s.pins[i] := by
    rw [hpins, pinsWithout_get]
  refine ⟨hd ▸ h.form, ?_, h.recalls.of_congr hq hc (fun g => by rw [ht]) fun i => ?_⟩
  · refine h.sound.freePins (way_same hd) (buf_same he) (txn_same ht) fun i p => ?_
    show t.pins[i] = some p ↔ s.pins[i] = some p ∧ _
    rw [get]
    split
    · next hw =>
      obtain ⟨w, hw, hi⟩ := hw
      exact ⟨nofun, fun h => absurd hi (h.2 w hw)⟩
    · next hw => exact ⟨fun h => ⟨h, fun w hm hi => hw ⟨w, hm, hi⟩⟩, And.left⟩
  · rw [get]
    split
    · next hw =>
      obtain ⟨w, hw, hi⟩ := hw
      cases hsp : s.pins[i] with
      | none => rfl
      | some p => exact (hp w hw i p hi hsp).2.2.symm
    · rfl

theorem refuse (h : CoherentWith (w :: hand) rs s) (hp : HoldsPin s x w) : CoherentWith hand rs (s.refuse w) := by
  rw [refuse_eq]
  exact h.freePins (ws := [w]) (by simpa using hp) rfl

/-- A request in hand without a pin record. -/
theorem cons_iff (hw : Waiter.pin? w = none) : CoherentWith (w :: hand) rs s ↔ CoherentWith hand rs s :=
  ⟨fun h => ⟨h.form, (Sound.cons_iff hw).1 h.sound, h.recalls⟩,
    fun h => ⟨h.form, (Sound.cons_iff hw).2 h.sound, h.recalls⟩⟩

/-- A LOCK_READ in hand records its way (R114). -/
theorem naming {l' : Option Loc} (h : CoherentWith hand rs s) (hw : w ∈ hand) (hp : WaitsWithPin s x l' w) (l : Loc) :
    CoherentWith hand rs { s with pins := pinsNaming s.pins w l } ∧
      WaitsWithPin { s with pins := pinsNaming s.pins w l } x (some l) w := by
  cases hi : Waiter.pin? w with
  | none =>
    have same : pinsNaming s.pins w l = s.pins := by rw [pinsNaming, hi]
    rw [same]
    exact ⟨h.of_same rfl, fun i hw => by rw [hi] at hw; cases hw⟩
  | some i =>
    obtain ⟨p, hs, ho, hl, hst⟩ := hp i hi
    have same : pinsNaming s.pins w l = upd s.pins i (some { p with st := .waiting (some l) }) := by
      simp only [pinsNaming, hi, hs, Option.map_some]
    have old : (s.pins[i]).bind Pin.deferred? = none := by
      rw [hs]
      show p.deferred? = none
      rw [Pin.deferred?, hst]
    rw [same]
    constructor
    · have named := putPin (i := i) (p := some { p with st := .waiting (some l) }) (hand' := hand)
        (t := { s with pins := upd s.pins i (some { p with st := .waiting (some l) }) }) h
        (h.sound.recordWay hw hi hs) rfl
      rwa [old] at named
    · intro j hj
      obtain rfl : i = j := Option.some.inj (hi.symm.trans hj)
      exact ⟨_, upd_same .., ho, hl, rfl⟩

/-! ### Requests at a line's way (R43 to R48) -/

/-- An entry is replaced by one with the same noted recall. -/
theorem keepEntry (h : CoherentWith hand rs s) {hand' : List Waiter} {g : Tag} {e : TxnEntry}
    (hs : Sound hand' (s.board.setTxn g (TxnEntry.txn? e))) (hn : e.noted? = s.txns[g].noted?)
    (ht : t.bound = (s.dir, upd s.txns g e, s.eb, s.pins, s.recallQueue, s.recallCount)) :
    CoherentWith hand' rs t := by
  obtain ⟨hd, ht, he, hp, hq, hc⟩ := bound_eq.1 ht
  refine ⟨hd ▸ h.form, ?_, h.recalls.of_congr hq hc (fun k => ?_) fun i => by rw [hp]⟩
  · have hb : t.board = s.board.setTxn g (TxnEntry.txn? e) :=
      Board.ext (way_same hd) (txn_upd ht) (buf_same he) (pin_same hp)
    exact hb ▸ hs
  · rw [ht, upd_get]
    split
    · next h => exact h ▸ hn
    · rfl

/-- A request joins the list of its line's entry (R47). -/
theorem joinList {l' : Option Loc} (h : CoherentWith [w] rs s) (hp : WaitsWithPin s x l' w)
    (hl : (s.wayAt l).line? = some x) : CoherentWith [] rs (s.joinList w l) := by
  unfold State.joinList
  split
  · next g u hf =>
    split
    · exact h.refuse hp.holds
    · next hroom =>
      obtain ⟨hg, hk, -⟩ := fetchOf_eq_some.1 hf
      obtain ⟨hv, hpv⟩ := h.naming (List.mem_singleton_self w) hp l
      rw [recordWay_eq]
      obtain ⟨-, y, hy, hky⟩ := h.sound.entry_awaits (txn?_eq_some.2 hg) hk
      obtain rfl : x = y := Option.some.inj (hl.symm.trans hy)
      refine hv.keepEntry (g := g) (e := .issued { u with waiters := u.waiters ++ [w] }) ?_ ?_ rfl
      · rw [← Board.setWay_self (State.board _) l]
        refine hv.sound.reenter (ws := [w]) (txn?_eq_some.2 hg) hk hk rfl
          (hv.sound.entryHasWay g u l (txn?_eq_some.2 hg) hk) rfl ?_ ?_ ?_
        · simpa using Nat.lt_of_not_le hroom
        · intro r hr
          obtain ⟨hkr, m, hm, hfill⟩ := hv.sound.notedInFill g u r (txn?_eq_some.2 hg) hr
          obtain rfl : l = m := Option.some.inj (hk.symm.trans hm)
          exact ⟨hkr, hfill⟩
        · intro v hv i hi
          obtain rfl := List.mem_singleton.1 hv
          obtain ⟨p, hs, ho, hl, hst⟩ := hpv i hi
          exact ⟨p, hs, ho, hky.trans (congrArg some hl.symm), hst⟩
      · rw [show s.txns[g] = _ from hg]
        rfl
  · exact h.refuse hp.holds

/-- A fetch or upgrade is issued for a line, the waiters in hand in its list (R48, R51, R74). -/
theorem openFetch {u : Txn} (h : CoherentWith u.waiters rs s) {g : Tag} {v : Way} (hm : MayFetch s x l)
    (hg : s.txns[g] = .free) (hloc : u.kind.fetchLoc? = some l) (hx : u.kind.line? = some x) (hv : WayMatches v u.kind)
    (hlen : u.waiters.length ≤ 8) (hn : u.noted = none) (hws : ∀ w ∈ u.waiters, WaitsWithPin s x (some l) w)
    (ht : t.bound = ((s.putWay l v).dir, upd s.txns g (.issued u), s.eb, s.pins, s.recallQueue, s.recallCount)) :
    CoherentWith [] rs t := by
  refine h.putWayEntry (h.sound.openFetch ?_ hm.rests hm.unpinned hloc hx hv hm.inSet hm.nowhere
    hm.notLeaving ?_ hlen hn hws) ?_ ht
  · show TxnEntry.txn? s.txns[g] = none
    rw [hg]
    rfl
  · exact fun k e he => hm.noEntry k e (txn?_eq_some.1 he)
  · rw [hg]
    exact hn

/-- A fetch or upgrade is issued for one request, whose pin record, if it has one, then names the way (R48, R51). -/
theorem openFor {l' : Option Loc} {u : Txn} (h : CoherentWith [w] rs s) {g : Tag} {v : Way} (hp : WaitsWithPin s x l' w)
    (hm : MayFetch s x l) (hg : s.txns[g] = .free) (hloc : u.kind.fetchLoc? = some l) (hx : u.kind.line? = some x)
    (hv : WayMatches v u.kind) (hws : u.waiters = [w]) (hn : u.noted = none)
    (ht : t.bound = ((s.putWay l v).dir, upd s.txns g (.issued u), s.eb, pinsNaming s.pins w l, s.recallQueue,
      s.recallCount)) : CoherentWith [] rs t := by
  obtain ⟨hc, hpc⟩ := h.naming (List.mem_singleton_self w) hp l
  rw [← hws] at hc
  refine hc.openFetch (g := g) (v := v) ?_ hg hloc hx hv (by simp [hws]) hn (fun v hv => ?_) ht
  · exact { hm with unpinned := fun i p d r hi hst => hm.unpinned i p d r (active_of_pinsNaming hi hst) hst }
  · rw [hws] at hv
    obtain rfl := List.mem_singleton.1 hv
    exact hpc

/-- A line that no way awaits and that is not write-back pending has no entry. -/
theorem no_entry (h : CoherentWith hand rs s) (hwb : s.writebackPending x = false)
    (hl : ∀ m, (s.wayAt m).line? = some x → Way.awaits (s.wayAt m) = false) (k : Tag) (u : Txn)
    (hu : s.txns[k] = .issued u) : u.kind.line? ≠ some x := by
  intro hx
  have hk : u.kind.isWriteback = false := by
    have := lowest_isSome_eq_false hwb k
    rw [hu] at this
    simpa [TxnEntry.writesBack, hx] using this
  cases hloc : u.kind.fetchLoc? with
  | some m =>
    obtain ⟨ha, y, hy, hky⟩ := h.sound.entry_awaits (txn?_eq_some.2 hu) hloc
    obtain rfl : x = y := Option.some.inj (hx.symm.trans hky)
    cases (hl m hy).symm.trans ha
  | none =>
    cases hkind : u.kind with
    | fetchS | fetchX | upgrade => rw [hkind] at hloc; cases hloc
    | writebackKeep | writebackDrop => rw [hkind] at hk; cases hk
    | ucRead | ucWrite | farAtomic => rw [hkind] at hx; cases hx

/-- A line in S that no entry names may be upgraded in its way. -/
theorem mayFetch_shared {data : LineData} (h : CoherentWith hand rs s) (hl : s.wayAt l = .copy .s x data)
    (hent : ∀ (k : Tag) e, s.txns[k] = .issued e → e.kind.line? ≠ some x) : MayFetch s x l := by
  have line : (s.wayAt l).line? = some x := by rw [hl]; rfl
  exact
  { rests := by rw [hl]; rfl
    unpinned := fun i p d r hi hst => by
      have : Way.isExclusive p.line (s.wayAt l) = true := (h.sound.activeHolds i p l d r hi hst).1
      rw [hl] at this
      cases this
    inSet := h.sound.inSet l x line
    nowhere := fun m hm => h.sound.oneWay m l x hm line
    notLeaving := fun j e he hx => h.sound.bufferAway j e l he (line.trans (congrArg some hx.symm))
    noEntry := hent }

/-- An UPGRADE is issued from S (R48). -/
theorem issueUpgrade {l' : Option Loc} {data : LineData} (h : CoherentWith [w] rs s) (hp : WaitsWithPin s x l' w)
    (hl : s.wayAt l = .copy .s x data) (hwb : s.writebackPending x = false) :
    CoherentWith [] rs (s.issueUpgrade w l x data) := by
  unfold State.issueUpgrade
  split
  · next g hg =>
    rw [recordWay_eq]
    have hent := h.no_entry hwb fun m hm => by
      rw [h.sound.oneWay m l x hm (by show (s.wayAt l).line? = _; rw [hl]; rfl), hl]
      rfl
    exact h.openFor hp (h.mayFetch_shared hl hent) (txns_of_freeTag hg) (v := .copy .upgrade x data)
      (u := { kind := .upgrade x l false, waiters := [w], noted := none, deadline := s.now + s.config.farTimeout,
              origin := .request }) rfl rfl ⟨data, rfl⟩ rfl rfl rfl
  · exact h.refuse hp.holds

/-- A request is performed on a way that holds valid data (R43 to R46, R70 to R72). -/
theorem perform {st : CopyState} {data : LineData} (h : CoherentWith (w :: hand) rs s)
    (hl : s.wayAt l = .copy st x data) (hst : w.access.isRead = false → st = .x ∨ st = .m) (hp : HoldsPin s x w)
    (hown : ∀ (j : Fin 4) q, s.pins[j] = some q → q.isActive = true → q.line = x → q.owner = w.requester) :
    CoherentWith hand rs (s.perform w l x data) := by
  have exclusive (ha : w.access.isRead = false) : Way.isExclusive x (s.wayAt l) = true := by
    rw [hl]
    exact isExclusive_copy_iff.2 ⟨rfl, hst ha⟩
  unfold State.perform
  split
  · next ha =>
    exact ((cons_iff (by rw [Waiter.pin?, ha])).1 h).of_same rfl
  · next ha =>
    refine ((cons_iff (by rw [Waiter.pin?, ha])).1 h).putExclusive (exclusive (by rw [ha]; rfl)) ?_ rfl
    exact isExclusive_copy_iff.2 ⟨rfl, .inr rfl⟩
  · next ha =>
    refine ((cons_iff (by rw [Waiter.pin?, ha])).1 h).putExclusive (exclusive (by rw [ha]; rfl)) ?_ rfl
    exact isExclusive_copy_iff.2 ⟨rfl, .inr rfl⟩
  · next len i ha =>
    have hi : Waiter.pin? w = some i := by rw [Waiter.pin?, ha]
    have active : CoherentWith hand rs (s.putPin i ((s.pins[i]).map fun p =>
        { p with st := .active l (s.now + s.config.pinTimeout) none })) := by
      have old : (s.pins[i]).bind Pin.deferred? = none := by
        cases hs : s.pins[i] with
        | none => rfl
        | some p => exact (hp i p hi hs).2.2
      have put := putPin (rs := rs) (i := i) (hand' := hand)
        (p := (s.pins[i]).map fun p => { p with st := .active l (s.now + s.config.pinTimeout) none })
        (t := s.putPin i _) (s := s) (hand := w :: hand) ?_ ?_ rfl
      · rwa [old] at put
      · cases s.pins[i] with
        | none => exact h
        | some p => exact h
      · refine h.sound.activate (l := l) hi rfl (fun p hs => ?_) fun j p q hs hj ha' hq => ?_
        · rw [(hp i p hi hs).2.1]
          exact exclusive (by rw [ha]; rfl)
        · obtain ⟨ho, hx, -⟩ := hp i p hi hs
          exact (hown j q hj ha' (hq.trans hx)).trans ho.symm
    exact (active.touch (t := (s.putPin i _).touch l) rfl).of_same rfl

theorem foreignPin_owner {r : Requester} (h : s.foreignPin r x = false) (j : Fin 4) (q : Pin) (hj : s.pins[j] = some q)
    (ha : q.isActive = true) (hq : q.line = x) : q.owner = r := by
  have := lowest_isSome_eq_false h j
  rw [hj] at this
  simpa [ha, hq] using this

/-- A request finds its line resident (R43 to R48). -/
theorem resident {l' : Option Loc} (h : CoherentWith [w] rs s) (hp : WaitsWithPin s x l' w)
    (hl : (s.wayAt l).line? = some x) (hf : s.foreignPin w.requester x = false)
    (hwb : (s.writebackPending x && (s.wayAt l).isCleanCopy && !w.access.isRead) = false) :
    CoherentWith [] rs (s.resident w l) := by
  unfold State.resident
  split
  · next hw => rw [hw] at hl; cases hl
  · exact h.joinList hp hl
  · next st y data hw =>
    obtain rfl : y = x := by rw [hw] at hl; exact Option.some.inj hl
    have hit (hst : w.access.isRead = false → st = .x ∨ st = .m) :
        CoherentWith [] rs ((s.touch l).perform w l y data) := by
      refine (h.touch (t := s.touch l) rfl).perform ?_ hst hp.holds fun j q => foreignPin_owner hf j q
      rw [wayAt_touch s l l h.form, hw]
    split
    · next hr =>
      split
      · exact h.joinList hp hl
      · exact hit fun hr' => by cases hr.symm.trans hr'
    · next hr _ => exact hit fun hr' => by cases hr.symm.trans hr'
    · exact hit fun _ => .inl rfl
    · exact hit fun _ => .inr rfl
    · next hr =>
      refine h.issueUpgrade hp hw ?_
      rw [hw, hr] at hwb
      simpa [Way.isCleanCopy] using hwb
    · exact h.joinList hp hl
    · exact h.refuse hp.holds

/-! ### Misses (R49 to R51) -/

theorem slot_of_freeSlot {i : Fin 4} (h : s.freeSlot = some i) : s.eb[i] = none :=
  Option.isNone_iff_eq_none.1 (lowest_eq_some.1 h).1

/-- A modified line that no ACTIVE pin keeps goes home through the eviction buffer (R61, R64). -/
theorem evict {data : LineData} {i : Fin 4} {g : Tag} (h : CoherentWith hand rs s) (hl : s.wayAt l = .copy .m x data)
    (hpin : ∀ (i : Fin 4) (p : Pin) d r, s.pins[i] = some p → p.st ≠ .active l d r) (hi : s.freeSlot = some i)
    (hg : s.freeTag = some g) (why : EvictionOrigin) (o : Origin) :
    CoherentWith hand rs (s.evict l x data i g why o) := by
  have hex : Way.isExclusive x (s.board.way l) = true := by
    show Way.isExclusive x (s.wayAt l) = true
    rw [hl]
    exact isExclusive_copy_iff.2 ⟨rfl, .inr rfl⟩
  obtain ⟨line, rests, -, hent⟩ := h.sound.exclusive_alone hex
  have gone : CoherentWith hand rs (s.putWay l .i) :=
    h.putWay (h.sound.setWay (.inl rfl) rests rfl rfl (fun y hy => by cases hy)
      fun j p d r hj hst => absurd hst (hpin j p d r hj)) rfl
  refine ⟨gone.form, ?_, gone.recalls.of_congr rfl rfl (fun k => ?_) fun _ => rfl⟩
  · have hb : (s.evict l x data i g why o).board =
        ((s.putWay l .i).board.setBuf i (some { line := x, data := data, origin := why, tag := g })).setTxn g
          (TxnEntry.txn? (issuedNow s (.writebackDrop x i) [] o)) :=
      Board.ext rfl (txn_upd (s := s.putWay l .i) rfl) (buf_upd (s := s.putWay l .i) rfl) rfl
    rw [hb]
    refine gone.sound.openDrop (slot_of_freeSlot hi) ?_ (fun m hm => ?_) (fun j e he => ?_) (fun k u hu => ?_)
      rfl rfl rfl rfl
    · show TxnEntry.txn? s.txns[g] = none
      rw [txns_of_freeTag hg]
      rfl
    · have : (if l = m then Way.i else s.wayAt m).line? = some x := wayAt_putWay s l m .i h.form ▸ hm
      split at this
      · cases this
      · next hne => exact hne (h.sound.oneWay l m x line this)
    · exact fun hx => h.sound.bufferAway j e l he (line.trans (congrArg some hx.symm))
    · exact hent k u hu
  · show (upd s.txns g _)[k].noted? = s.txns[k].noted?
    rw [upd_get]
    split
    · next hk =>
      rw [← hk, txns_of_freeTag hg]
      rfl
    · rfl

/-- The way of a miss: I, or S, X or M under no pin (R49). -/
theorem victim_eq_some {i : Fin 1024} (h : s.victim i = some l) : l.set = i ∧
    (s.wayAt l = .i ∨ (s.wayAt l).isStable = true ∧ s.pinned l = false) := by
  unfold State.victim at h
  dsimp only at h
  split at h
  · next v hv =>
    cases h
    have found := List.find?_some hv
    exact ⟨rfl, .inl (isI_iff.1 found)⟩
  · obtain ⟨v, hv, rfl⟩ := Option.map_eq_some_iff.1 h
    have found := List.find?_some hv
    simp only [Bool.and_eq_true, Bool.not_eq_true'] at found
    exact ⟨rfl, .inr found⟩

/-- The way of a miss may be taken for a line that is nowhere, once it no longer holds M. -/
theorem mayFetch_victim {i : Fin 1024} (h : CoherentWith hand rs s) (hv : s.victim i = some l) (hx : setIndex x = i)
    (hal : x.toNat % 64 = 0) (hway : ∀ m, (s.wayAt m).line? ≠ some x)
    (hbuf : ∀ (j : Fin 4) e, s.eb[j] = some e → e.line ≠ x)
    (hent : ∀ (k : Tag) e, s.txns[k] = .issued e → e.kind.line? ≠ some x) : MayFetch s x l := by
  obtain ⟨hset, hw⟩ := victim_eq_some hv
  have rests : Way.awaits (s.wayAt l) = false := by
    obtain hi | ⟨hst, -⟩ := hw
    · rw [hi]
      rfl
    · exact Bool.eq_false_iff.2 fun ha => by
        rw [(isBusy_of_awaits ha).2] at hst
        cases hst
  refine ⟨rests, fun j p d r hj hst => ?_, ⟨hx.trans hset.symm, hal⟩, fun m hm => absurd hm (hway m), hbuf, hent⟩
  obtain hi | ⟨-, hp⟩ := hw
  · have : Way.isExclusive p.line (s.wayAt l) = true := (h.sound.activeHolds j p l d r hj hst).1
    rw [hi] at this
    cases this
  · have := lowest_isSome_eq_false hp j
    rw [hj] at this
    simp [Pin.names, hst] at this

/-- The victim's way may still be taken once its modified line has gone home. -/
theorem mayFetch_evicted {old : Addr} {data : LineData} {i : Fin 4} {g : Tag} {why : EvictionOrigin} {o : Origin}
    (hm : MayFetch s x l) (hf : dirWf s.dir = true) (hx : old ≠ x) : MayFetch (s.evict l old data i g why o) x l := by
  have way (m : Loc) : (s.evict l old data i g why o).wayAt m = if l = m then .i else s.wayAt m :=
    wayAt_putWay s l m .i hf
  have here : (s.evict l old data i g why o).wayAt l = .i := by rw [way, if_pos rfl]
  refine ⟨by rw [here]; rfl, hm.unpinned, hm.inSet, fun m h => ?_, fun j e he => ?_, fun k e he => ?_⟩
  · rw [way] at h
    split at h
    · cases h
    · exact hm.nowhere m h
  · change (upd s.eb i _)[j] = _ at he
    rw [upd_get] at he
    split at he
    · cases he
      exact hx
    · exact hm.notLeaving j e he
  · change (upd s.txns g _)[k] = _ at he
    rw [upd_get] at he
    split at he
    · cases he
      exact fun h => hx (Option.some.inj h)
    · exact hm.noEntry k e he

theorem allocate {l' : Option Loc} {g : Tag} (h : CoherentWith [w] rs s) (hp : WaitsWithPin s x l' w)
    (hm : MayFetch s x l) (hg : s.freeTag = some g) : CoherentWith [] rs (s.allocate w x l g) := by
  have kind : (fetchKind w.access x l).fetchLoc? = some l ∧ (fetchKind w.access x l).line? = some x ∧
      WayMatches (.fill x) (fetchKind w.access x l) := by
    unfold fetchKind
    split <;> exact ⟨rfl, rfl, rfl⟩
  have opened : CoherentWith [] rs { s with
      dir := (s.putWay l (.fill x)).dir
      txns := upd s.txns g (issuedNow s (fetchKind w.access x l) [w])
      pins := pinsNaming s.pins w l } :=
    h.openFor hp hm (txns_of_freeTag hg) kind.1 kind.2.1 kind.2.2 rfl rfl rfl
  rw [allocate_eq, recordWay_eq]
  exact opened.touch (l := l) rfl

/-- A miss (R49 to R51). -/
theorem miss {l' : Option Loc} (h : CoherentWith [w] rs s) (hp : WaitsWithPin s x l' w) (hal : x.toNat % 64 = 0)
    (hway : ∀ m, (s.wayAt m).line? ≠ some x) (hbuf : ∀ (j : Fin 4) e, s.eb[j] = some e → e.line ≠ x)
    (hent : ∀ (k : Tag) e, s.txns[k] = .issued e → e.kind.line? ≠ some x) : CoherentWith [] rs (s.miss w x) := by
  unfold State.miss
  split
  · exact h.refuse hp.holds
  · next l hv =>
    have hm := h.mayFetch_victim hv rfl hal hway hbuf hent
    split
    · next old data hl =>
      split
      · next slot g hs hg =>
        have sent := h.evict hl hm.unpinned hs hg .victim .request
        dsimp only
        split
        · next g' hg' =>
          refine sent.allocate (l' := l') hp (mayFetch_evicted hm h.form fun hx => hway l ?_) hg'
          rw [hl, ← hx]
          rfl
        · exact h.refuse hp.holds
      · exact h.refuse hp.holds
    · split
      · next g hg => exact h.allocate hp hm hg
      · exact h.refuse hp.holds

/-- Step 7 of admission, for a request of the cache (R42). -/
theorem directory {l' : Option Loc} (h : CoherentWith [w] rs s) (hp : WaitsWithPin s x l' w) (hal : x.toNat % 64 = 0) :
    CoherentWith [] rs (s.directory w x) := by
  have refused := h.refuse hp.holds
  unfold State.directory
  split
  · exact refused
  · next hbuf =>
    split
    · exact refused
    · next hf =>
      split
      · next hl =>
        split
        · exact refused
        · next hwb =>
          have hway (m) : (s.wayAt m).line? ≠ some x := fun hm =>
            lookup_eq_none.1 hl m (h.sound.inSet m x hm).1.symm hm
          refine h.miss hp hal hway (fun j e he hx => ?_)
            (h.no_entry (Bool.eq_false_iff.2 hwb) fun m hm => absurd hm (hway m))
          have := lowest_isSome_eq_false (Bool.eq_false_iff.2 hbuf) j
          rw [he] at this
          simp [hx] at this
      · next l hl =>
        split
        · exact refused
        · next hwb =>
          exact h.resident hp (lookup_eq_some.1 hl).2.1 (Bool.eq_false_iff.2 hf) (Bool.eq_false_iff.2 hwb)

/-! ### Copy removal and requests that go home (R28 to R32) -/

variable {q : Request}

/-- A request goes home uncached or atomic (R65). -/
theorem issueUncached (h : CoherentWith hand rs s) (hw : q.uncachedWaiter = some w) {g : Tag}
    (hg : s.freeTag = some g) : CoherentWith hand rs (s.issueUncached q w g) := by
  have kind : (uncachedKind q).line? = none := by
    unfold uncachedKind
    split <;> rfl
  have pin : Waiter.pin? w = none := by
    unfold Request.uncachedWaiter at hw
    split at hw <;> cases hw <;> rfl
  have free := txns_of_freeTag hg
  rw [issueUncached_eq hw]
  refine h.keepEntry (h.sound.openLineless ?_ kind (by exact Nat.le_refl 1) ?_ rfl) ?_ rfl
  · show TxnEntry.txn? s.txns[g] = none
    rw [free]
    rfl
  · intro v hv
    obtain rfl := List.mem_singleton.1 hv
    exact pin
  · rw [free]
    rfl

/-- No pin record on the line: no ACTIVE pin on its way. -/
theorem unpinned_of_linePinned (h : CoherentWith hand rs s) (hp : s.linePinned x = false)
    (hl : (s.wayAt l).line? = some x) (i : Fin 4) (p : Pin) (d : Nat) (r : Option RecallRecord)
    (hi : s.pins[i] = some p) : p.st ≠ .active l d r := by
  intro hst
  have line := (of_isExclusive (h.sound.activeHolds i p l d r hi hst).1).1
  have := lowest_isSome_eq_false hp i
  rw [hi] at this
  exact beq_eq_false_iff_ne.1 this (Option.some.inj (line.symm.trans hl))

theorem removeCopy (h : CoherentWith hand rs s) (hw : q.uncachedWaiter = some w) :
    CoherentWith hand rs (s.removeCopy q w) := by
  have retry : CoherentWith hand rs (s.answer q .retry) := h.of_same rfl
  unfold State.removeCopy
  dsimp only
  split
  · exact retry
  · next hp =>
    split
    · next l hl =>
      have line := (lookup_eq_some.1 hl).2.1
      have unpinned := h.unpinned_of_linePinned (Bool.eq_false_iff.2 hp) line
      split
      · next old data hl =>
        split
        · exact retry
        · split
          · next slot g hs hg => exact (h.evict hl unpinned hs hg .stale .request).of_same rfl
          · exact retry
      · split
        · exact retry
        · next hbusy =>
          split
          · exact retry
          · split
            · next g hg =>
              have cleared : CoherentWith hand rs (s.putWay l .i) := by
                refine h.putWay (h.sound.setWay (.inl rfl) ?_ rfl rfl (fun y hy => by cases hy)
                  fun i p d r hi hst => absurd hst (unpinned i p d r hi)) rfl
                exact Bool.eq_false_iff.2 fun ha => hbusy (isBusy_of_awaits ha).1
              exact cleared.issueUncached hw hg
            · exact retry
    · split
      · exact retry
      · split
        · next g hg => exact h.issueUncached hw hg
        · exact retry

/-! ### Admission (R9 to R14, R24, R113) -/

theorem pastWindow (h : CoherentWith [] rs s) (q : Request) : CoherentWith [] rs (s.pastWindow q) := by
  have plain (a : Access) (ha : Waiter.pin? (waiterOf q a) = none) : CoherentWith [] rs (s.toDirectory q a) :=
    ((cons_iff ha).2 h).directory (l' := none) (fun i hi => by cases ha.symm.trans hi) (lineOf_aligned q.addr)
  unfold State.pastWindow
  split
  · exact plain _ rfl
  · exact plain _ rfl
  · exact plain _ rfl
  · next len _ =>
    unfold State.lockStep
    split
    · exact h.of_same rfl
    · next hp =>
      split
      · exact h.of_same rfl
      · next i hi =>
        have free := pins_of_freePinRecord hi
        have old : (s.pins[i]).bind Pin.deferred? = none := by rw [free]; rfl
        have reserved := putPin (rs := rs) (i := i) (t := s.reservePin i q.requester (lineOf q.addr)) h
          (h.sound.reserve (w := waiterOf q (.lockRead len i)) (x := lineOf q.addr) rfl free fun j v hj ho => ?_) rfl
        · rw [old] at reserved
          refine directory (l' := none) reserved (fun j hj => ?_) (lineOf_aligned q.addr)
          obtain rfl : i = j := Option.some.inj hj
          exact ⟨_, upd_same .., rfl, rfl, rfl⟩
        · have := lowest_isSome_eq_false (Bool.eq_false_iff.2 hp) j
          rw [show s.pins[j] = some v from hj] at this
          exact beq_eq_false_iff_ne.1 this ho
  · exact h.unlockStep ..

theorem admitFromMode (h : CoherentWith [] rs s) (q : Request) : CoherentWith [] rs (s.admitFromMode q) := by
  unfold State.admitFromMode State.windowCheck
  split
  · exact h.of_same rfl
  · dsimp only
    split
    · exact h.pastWindow q
    · split
      · exact h.of_same rfl
      · split
        · exact h.of_same rfl
        · split
          · exact h.of_same rfl
          · split
            · split
              · next w hw => exact h.removeCopy hw
              · exact h
            · exact h.pastWindow q

theorem admitPacket (h : CoherentWith [] rs s) (p : Packet) : CoherentWith [] rs (s.admitPacket p) := by
  unfold State.admitPacket State.admitRequest
  split
  · split
    · exact h.of_same rfl
    · split
      · next hc => exact (h.of_same (watchCheck_bound (.inl hc))).admitFromMode _
      · next hc => exact h.of_same (watchCheck_bound (.inr hc))
  · exact h.of_same rfl

theorem takeRequest (h : CoherentWith [] rs s) (k : RequestKind) : CoherentWith [] rs (s.takeRequest k) := by
  unfold State.takeRequest
  split
  · next p rest _ =>
    split
    · exact (h.of_same (t := s.takeHead p rest) rfl).admitPacket p
    · exact h
  · exact h

end CoherentWith

end Sys2Proof.Machine
end

section
/-! SUPPORT. Grants, their walks and the ends of entries keep the law of coherence (R69 to R84). -/

namespace Sys2Proof.Machine

open Sys2Proof.Safety

/-! ### The walk while its entry is taken out of the table (R69) -/

/-- A waiter of the walk is served the same whatever the entries are. -/
theorem walkOne_putEntry (s : State) (g : Tag) (e : TxnEntry) (l : Loc) (o : Option Requester) (w : Waiter) :
    (s.putEntry g e).walkOne l o w = (s.walkOne l o w).map fun r => (r.1.putEntry g e, r.2) := by
  have refused : (s.putEntry g e).refuse w = (s.refuse w).putEntry g e := by
    rw [refuse_eq, refuse_eq]
    rfl
  have performed (x : Addr) (data : LineData) :
      (s.putEntry g e).perform w l x data = (s.perform w l x data).putEntry g e := by
    unfold State.perform
    split <;> rfl
  have way : (s.putEntry g e).wayAt l = s.wayAt l := rfl
  unfold State.walkOne
  rw [way, refused]
  split
  · rfl
  · split
    · simp only [performed]
      split
      · rfl
      · split <;> rfl
      · split <;> rfl
    · rfl

theorem walk_putEntry (g : Tag) (e : TxnEntry) (l : Loc) (ws : List Waiter) (o : Option Requester) (s : State) :
    State.walk l ws o (s.putEntry g e) =
      ((State.walk l ws o s).1.putEntry g e, (State.walk l ws o s).2) := by
  induction ws generalizing o s with
  | nil => rfl
  | cons w ws ih =>
    rw [walk_cons, walk_cons, walkOne_putEntry]
    cases s.walkOne l o w with
    | none => rfl
    | some r => exact ih r.2 r.1

/-! ### A walk over a line in X or M, which ends (R70 to R73) -/

/-- The walk stands before these waiters, the line in X or M in its way: their pin records are their requesters' on the
line, and an ACTIVE pin on the line is of the owner that the walk knows. -/
structure Walking (ws : List Waiter) (o : Option Requester) (l : Loc) (x : Addr) (rs : List RecallRecord) (s : State) :
    Prop where
  coherent : CoherentWith ws rs s
  exclusive : Way.isExclusive x (s.wayAt l) = true
  pins : ∀ w ∈ ws, HoldsPin s x w
  owner : ∀ (j : Fin 4) q, s.pins[j] = some q → q.isActive = true → q.line = x → o = some q.owner

theorem exclusive_copy {x : Addr} {v : Way} (h : Way.isExclusive x v = true) :
    ∃ st data, v = .copy st x data ∧ (st = .x ∨ st = .m) := by
  cases v with
  | i | fill => cases h
  | copy st y data =>
    obtain ⟨rfl, hst⟩ := isExclusive_copy_iff.1 h
    exact ⟨st, data, rfl, hst⟩

/-- A record behind a refused request was there before it. -/
theorem pins_refuse {s : State} {w : Waiter} {j : Fin 4} {q : Pin} (h : (s.refuse w).pins[j] = some q) :
    s.pins[j] = some q := by
  rw [refuse_eq] at h
  change (pinsWithout s.pins [w])[j] = _ at h
  rw [pinsWithout_get] at h
  split at h
  · cases h
  · exact h

/-- A record behind a performed request was there before it, or is the one that it has activated. -/
theorem pins_perform {s : State} {w : Waiter} {l : Loc} {x : Addr} {data : LineData} {j : Fin 4} {q : Pin}
    (h : (s.perform w l x data).pins[j] = some q) : s.pins[j] = some q ∨
      Waiter.pin? w = some j ∧ ∃ p d, s.pins[j] = some p ∧ q = { p with st := .active l d none } := by
  unfold State.perform at h
  split at h
  · exact .inl h
  · exact .inl h
  · exact .inl h
  · next len i ha =>
    change (upd s.pins i _)[j] = _ at h
    rw [upd_get] at h
    split at h
    · next hij =>
      subst hij
      obtain ⟨p, hp, rfl⟩ := Option.map_eq_some_iff.1 h
      exact .inr ⟨by rw [Waiter.pin?, ha], p, _, hp, rfl⟩
    · exact .inl h

/-- A request performed on a line in X or M leaves it there. -/
theorem exclusive_perform {s : State} (hf : dirWf s.dir = true) {w : Waiter} {l : Loc} {x : Addr} {data : LineData}
    (h : Way.isExclusive x (s.wayAt l) = true) : Way.isExclusive x ((s.perform w l x data).wayAt l) = true := by
  have written (d : LineData) : Way.isExclusive x ((s.putWay l (.copy .m x d)).wayAt l) = true := by
    rw [wayAt_putWay s l l _ hf, if_pos rfl]
    exact isExclusive_copy_iff.2 ⟨rfl, .inr rfl⟩
  unfold State.perform
  split
  · exact h
  · exact written _
  · exact written _
  · next len i _ =>
    have same := wayAt_touch (s.putPin i ((s.pins[i]).map fun p =>
      { p with st := .active l (s.now + s.config.pinTimeout) none })) l l hf
    have : ((s.activatePin i l w data len).wayAt l) = s.wayAt l := same
    rw [this]
    exact h

namespace Walking

variable {w : Waiter} {ws : List Waiter} {o : Option Requester} {l : Loc} {x : Addr} {rs : List RecallRecord}
  {s : State}

/-- A request of a requester that no other's pin keeps off is performed. -/
theorem perform (h : Walking (w :: ws) o l x rs s) (ho : ∀ r, o = some r → r = w.requester) {data : LineData}
    {st : CopyState} (hw : s.wayAt l = .copy st x data) {o' : Option Requester} (ho' : o' = o ∨ o' = some w.requester)
    (hlock : (Waiter.pin? w).isSome = true → o' = some w.requester) : Walking ws o' l x rs (s.perform w l x data) := by
  have hst : st = .x ∨ st = .m := (isExclusive_copy_iff.1 (hw ▸ h.exclusive)).2
  refine ⟨h.coherent.perform hw (fun _ => hst) (h.pins w List.mem_cons_self) fun j q hj ha hq =>
    ho _ (h.owner j q hj ha hq), exclusive_perform h.coherent.form h.exclusive, fun v hv i p hi hp => ?_,
    fun j q hj ha hq => ?_⟩
  · obtain hp | ⟨-, p', d, hp', rfl⟩ := pins_perform hp
    · exact h.pins v (List.mem_cons_of_mem _ hv) i p hi hp
    · obtain ⟨hown, hx, -⟩ := h.pins v (List.mem_cons_of_mem _ hv) i p' hi hp'
      exact ⟨hown, hx, rfl⟩
  · obtain hj | ⟨hi, p, d, hp, rfl⟩ := pins_perform hj
    · have known := h.owner j q hj ha hq
      obtain rfl | rfl := ho'
      · exact known
      · rw [ho _ known]
    · rw [hlock (by rw [hi]; rfl), (h.pins w List.mem_cons_self j p hi hp).1]

theorem one (h : Walking (w :: ws) o l x rs s) : ∃ t o', s.walkOne l o w = some (t, o') ∧ Walking ws o' l x rs t := by
  obtain ⟨st, data, hw, hst⟩ := exclusive_copy h.exclusive
  unfold State.walkOne
  split
  · refine ⟨_, _, rfl, h.coherent.refuse (h.pins w List.mem_cons_self), ?_, ?_, ?_⟩
    · rw [refuse_eq]
      exact h.exclusive
    · exact fun v hv i p hi hp => h.pins v (List.mem_cons_of_mem _ hv) i p hi (pins_refuse hp)
    · exact fun j q hj => h.owner j q (pins_refuse hj)
  · next ho =>
    have ho (r) (hr : o = some r) : r = w.requester := by simpa [hr] using ho
    rw [hw]
    dsimp only
    split
    · next ha => exact ⟨_, _, rfl, h.perform ho hw (.inl rfl) (by rw [Waiter.pin?, ha]; nofun)⟩
    · rw [if_pos hst]
      exact ⟨_, _, rfl, h.perform ho hw (.inr rfl) fun _ => rfl⟩
    · next hr hlock =>
      rw [if_pos hst]
      refine ⟨_, _, rfl, h.perform ho hw (.inl rfl) fun hp => ?_⟩
      unfold Waiter.pin? at hp
      split at hp
      · next ha => exact absurd ha (hlock _ _)
      · cases hp

/-- The walk serves or refuses every waiter. -/
theorem walk (h : Walking ws o l x rs s) : ∃ t, State.walk l ws o s = (t, []) ∧ CoherentWith [] rs t := by
  induction ws generalizing o s with
  | nil => exact ⟨s, rfl, h.coherent⟩
  | cons w ws ih =>
    obtain ⟨t, o', ht, hw⟩ := h.one
    rw [walk_cons, ht]
    exact ih hw

end Walking

/-! ### A walk over a line in S, which stops at the first waiter that is no READ (R70, R74) -/

theorem walk_shared {ws : List Waiter} {l : Loc} {x : Addr} {data : LineData} {rs : List RecallRecord} {s : State}
    (h : CoherentWith ws rs s) (hw : s.wayAt l = .copy .s x data) :
    ∃ t left, State.walk l ws none s = (t, left) ∧ t.bound = s.bound ∧ CoherentWith left rs t ∧ left <:+ ws := by
  induction ws generalizing s with
  | nil => exact ⟨s, [], rfl, rfl, h, List.suffix_rfl⟩
  | cons w ws ih =>
    cases ha : w.access with
    | read len =>
      have one : s.walkOne l none w = some (s.answerWaiter w .ok (lineBytes data w.offset len), none) := by
        simp [State.walkOne, hw, ha, State.perform]
      rw [walk_cons, one]
      have answered := ((CoherentWith.cons_iff (by rw [Waiter.pin?, ha])).1 h).of_same
        (t := s.answerWaiter w .ok (lineBytes data w.offset len)) rfl
      obtain ⟨t, left, ht, hb, hc, hs⟩ := ih answered hw
      exact ⟨t, left, ht, hb, hc, hs.trans (List.suffix_cons ..)⟩
    | write | lockRead | atomic =>
      have one : s.walkOne l none w = none := by simp [State.walkOne, hw, ha]
      rw [walk_cons, one]
      exact ⟨s, w :: ws, rfl, rfl, h, List.suffix_rfl⟩

/-! ### Grants (R69 to R77) -/

namespace CoherentWith

variable {s v : State} {rs : List RecallRecord} {g : Tag} {t : Txn} {l : Loc} {x : Addr}

/-- A fetch or upgrade ends: its way is I or holds the line stable, its waiters and its noted recall are in hand. -/
theorem closeFetch (h : CoherentWith [] rs s) (hg : s.txns[g] = .issued t) (hl : t.kind.fetchLoc? = some l)
    (hx : t.kind.line? = some x) {w : Way}
    (hw : w = .i ∨ ∃ st data, w = .copy st x data ∧ (st = .s ∨ st = .x ∨ st = .m)) {e : TxnEntry}
    (he : TxnEntry.txn? e = none)
    (hv : v.bound = ((s.putWay l w).dir, upd s.txns g e, s.eb, s.pins, s.recallQueue, s.recallCount)) :
    CoherentWith t.waiters (t.noted.toList ++ rs) v := by
  obtain ⟨hd, ht, heb, hp, hq, hc⟩ := bound_eq.1 hv
  have unnoted : e.noted? = none := by cases e <;> first | rfl | cases he
  have recalls := RecallForm.setEntry (s := s) (t := v) (rs := rs) (g := g) (e := e) (by rw [unnoted]; exact h.recalls)
    (by simp only [State.recalling, ht, hp, hq, hc])
  refine ⟨hd ▸ dirWf_putWay s l w h.form, ?_, by rwa [hg] at recalls⟩
  have hb : v.board = (s.board.setWay l w).setTxn g (TxnEntry.txn? e) :=
    Board.ext (way_putWay h.form hd) (txn_upd ht) (buf_same heb) (pin_same hp)
  rw [hb, he]
  exact h.sound.closeFetch (txn?_eq_some.2 hg) hl hx hw

/-- The line is granted: installed, its entry taken out of the table, the waiters in hand (R52). -/
theorem installed (h : CoherentWith [] rs s) (hg : s.txns[g] = .issued t) (hl : t.kind.fetchLoc? = some l)
    (hx : t.kind.line? = some x) {st : CopyState} (hst : st = .s ∨ st = .x ∨ st = .m) (data : LineData) :
    CoherentWith t.waiters (t.noted.toList ++ rs) ((s.install l st x data).putEntry g .free) :=
  (h.closeFetch (v := (s.putWay l (.copy st x data)).putEntry g .free) hg hl hx (.inr ⟨st, data, rfl, hst⟩) (e := .free)
    rfl rfl).touch rfl

/-- The LOCK_READs of a list wait under their pin records (R60). -/
theorem listed_waits (h : CoherentWith [] rs s) (hg : s.txns[g] = .issued t) (hl : t.kind.fetchLoc? = some l)
    (hx : t.kind.line? = some x) (w : Waiter) (hw : w ∈ t.waiters) : WaitsWithPin s x (some l) w := by
  intro i hi
  obtain ⟨p, hp, ho, -, hst, hline⟩ := h.sound.listedWaits g t w i (txn?_eq_some.2 hg) hw hi
  exact ⟨p, hp, ho, Option.some.inj (hline.symm.trans hx), hl ▸ hst⟩

/-- No ACTIVE pin is on a line that is fetched or upgraded. -/
theorem inactive (h : CoherentWith [] rs s) (hg : s.txns[g] = .issued t) (hl : t.kind.fetchLoc? = some l)
    (hx : t.kind.line? = some x) (j : Fin 4) (q : Pin) (hj : s.pins[j] = some q) (hq : q.line = x) :
    q.isActive = false := by
  obtain ⟨ha, y, hy, hky⟩ := h.sound.entry_awaits (txn?_eq_some.2 hg) hl
  obtain rfl : x = y := Option.some.inj (hx.symm.trans hky)
  cases hst : q.st with
  | waiting => rw [Pin.isActive, hst]
  | active m d r =>
    have hex := (h.sound.activeHolds j q m d r hj hst).1
    obtain rfl := h.sound.oneWay m l x (hq ▸ (of_isExclusive hex).1) hy
    cases ((of_awaits ha).2 q.line).symm.trans hex

/-- No other entry names a line that is fetched or upgraded (R59). -/
theorem entry_alone (h : CoherentWith [] rs s) (hg : s.txns[g] = .issued t) (hx : t.kind.line? = some x) (k : Tag)
    (u : Txn) (hk : (upd s.txns g .free)[k] = .issued u) : u.kind.line? ≠ some x := by
  rw [upd_get] at hk
  split at hk
  · cases hk
  · next hne => exact fun hu => hne (h.sound.onePerLine g k t u x (txn?_eq_some.2 hg) (txn?_eq_some.2 hk) hx hu)

/-- The walk has stopped: the line is upgraded for the waiters that are left (R74). -/
theorem stopWalk {left : List Waiter} {data : LineData} (h : CoherentWith left rs (s.putEntry g .free))
    (hw : s.wayAt l = .copy .s x data)
    (hent : ∀ (k : Tag) u, (upd s.txns g .free)[k] = .issued u → u.kind.line? ≠ some x)
    (hp : ∀ w ∈ left, WaitsWithPin s x (some l) w) (hlen : left.length ≤ 8) :
    CoherentWith [] rs (s.stopWalk g t x l left) := by
  have stopped : s.stopWalk g t x l left = (s.putWay l (.copy .upgrade x data)).issue g (.upgrade x l false) left none
      t.origin (.upgrade g x) := by
    simp only [State.stopWalk, hw]
  rw [stopped]
  refine h.openFetch (g := g) (v := .copy .upgrade x data)
    (u := { kind := .upgrade x l false, waiters := left, noted := none, deadline := s.now + s.config.farTimeout,
            origin := t.origin })
    (h.mayFetch_shared hw hent) (upd_same ..) rfl rfl ⟨data, rfl⟩ hlen rfl hp ?_
  simp only [State.putEntry, upd_upd]
  rfl

/-- A walk that ended frees the entry, and its noted recall meets the line (R75, R101). -/
theorem finish_ended {u : State} (hu : State.walk l t.waiters none s = (u, []))
    (h : CoherentWith [] (t.noted.toList ++ rs) (u.putEntry g .free)) :
    CoherentWith [] rs (s.walkAndFinish g t x l) := by
  rw [walkAndFinish_ended hu]
  exact (h.of_same (t := u.releaseTag g) rfl).applyHeldRecall

/-- The walk over a line granted in X. -/
theorem finish_exclusive (h : Walking t.waiters none l x (t.noted.toList ++ rs) (s.putEntry g .free)) :
    CoherentWith [] rs (s.walkAndFinish g t x l) := by
  obtain ⟨v, hv, hc⟩ := h.walk
  rw [walk_putEntry] at hv
  obtain ⟨hstate, hleft⟩ := Prod.mk.inj hv
  exact finish_ended (Prod.ext rfl hleft) (hstate ▸ hc)

/-- The walk over a line granted in S. -/
theorem finish_shared {data : LineData} (h : CoherentWith t.waiters (t.noted.toList ++ rs) (s.putEntry g .free))
    (hw : s.wayAt l = .copy .s x data)
    (hent : ∀ (k : Tag) u, (upd s.txns g .free)[k] = .issued u → u.kind.line? ≠ some x)
    (hp : ∀ w ∈ t.waiters, WaitsWithPin s x (some l) w) (hlen : t.waiters.length ≤ 8) :
    CoherentWith [] rs (s.walkAndFinish g t x l) := by
  obtain ⟨v, left, hv, hb, hc, hleft⟩ := walk_shared h hw
  rw [walk_putEntry] at hv
  obtain ⟨hstate, hrest⟩ := Prod.mk.inj hv
  subst hstate
  cases left with
  | nil => exact finish_ended (Prod.ext rfl hrest) hc
  | cons w ws =>
    obtain ⟨u, hu⟩ : ∃ u, State.walk l t.waiters none s = (u, w :: ws) := ⟨_, Prod.ext rfl hrest⟩
    rw [walkAndFinish_stopped hu]
    rw [hu] at hb hc
    obtain ⟨hd, ht, -, hpins, -, -⟩ := bound_eq.1 hb
    have same : u.pins = s.pins := hpins
    have way : u.wayAt l = .copy .s x data := (congrArg (fun d => (readSet d l.set).ways[l.way]) hd).trans hw
    have entries : upd u.txns g .free = upd s.txns g .free := ht
    have alone (k : Tag) (e) (he : (upd u.txns g .free)[k] = .issued e) : e.kind.line? ≠ some x :=
      hent k e (entries ▸ he)
    have waits (v) (hv : v ∈ w :: ws) : WaitsWithPin u x (some l) v := fun i hi => by
      rw [same]
      exact hp v (hleft.subset hv) i hi
    have stopped : CoherentWith [] (t.noted.toList ++ rs) (u.stopWalk g t x l (w :: ws)) :=
      stopWalk hc way alone waits (hleft.length_le.trans hlen)
    exact stopped.applyHeldRecall

/-- The granted line meets the waiters of its entry, and then its noted recall (R69 to R76). -/
theorem granted (h : CoherentWith [] rs s) (hg : s.txns[g] = .issued t) (hl : t.kind.fetchLoc? = some l)
    (hx : t.kind.line? = some x) {st : CopyState} (hst : st = .s ∨ st = .x ∨ st = .m) (data : LineData) :
    CoherentWith [] rs ((s.install l st x data).walkAndFinish g t x l) := by
  have taken := h.installed hg hl hx hst data
  have way : (s.install l st x data).wayAt l = .copy st x data := wayAt_install h.form ..
  have waits (w) (hw : w ∈ t.waiters) : WaitsWithPin (s.install l st x data) x (some l) w :=
    h.listed_waits hg hl hx w hw
  have alone (k : Tag) (u) : (upd (s.install l st x data).txns g .free)[k] = .issued u → u.kind.line? ≠ some x :=
    h.entry_alone hg hx k u
  have idle (j : Fin 4) (q) : (s.install l st x data).pins[j] = some q → q.line = x → q.isActive = false :=
    h.inactive hg hl hx j q
  generalize s.install l st x data = v at taken way waits alone idle
  by_cases hshared : st = .s
  · subst hshared
    exact finish_shared taken way alone waits (h.sound.listBounded g t (txn?_eq_some.2 hg)).1
  · refine finish_exclusive ⟨taken, ?_, fun w hw => (waits w hw).holds, fun j q hj ha hq => ?_⟩
    · show Way.isExclusive x (v.wayAt l) = true
      rw [way]
      exact isExclusive_copy_iff.2 ⟨rfl, hst.resolve_left hshared⟩
    · cases (idle j q hj hq).symm.trans ha

/-! ### The ends of entries (R78 to R84) -/

theorem dropNoted {hand : List Waiter} {o : Option RecallRecord} (h : CoherentWith hand (o.toList ++ rs) s) :
    CoherentWith hand rs (s.dropNoted o) := by
  cases o with
  | none => exact h
  | some r => exact h.ackRecall ..

/-- An entry without a way ends: it has noted no recall (R97). -/
theorem closeWayless {hand : List Waiter} (h : CoherentWith hand rs s) (hg : s.txns[g] = .issued t)
    (hl : t.kind.fetchLoc? = none) {e : TxnEntry} (he : TxnEntry.txn? e = none)
    (hs : Sound hand v.board) (hf : dirWf v.dir = true)
    (hv : v.recalling = (upd s.txns g e, s.pins, s.recallQueue, s.recallCount)) : CoherentWith hand rs v := by
  have notNoted : t.noted = none := by
    refine Option.eq_none_iff_forall_ne_some.2 fun r hr => ?_
    obtain ⟨-, m, hm, -⟩ := h.sound.notedInFill g t r (txn?_eq_some.2 hg) hr
    cases hl.symm.trans hm
  have unnoted : e.noted? = none := by cases e <;> first | rfl | cases he
  have recalls := RecallForm.setEntry (s := s) (t := v) (rs := rs) (g := g) (e := e)
    (by rw [unnoted]; exact h.recalls) hv
  rw [hg, show (TxnEntry.issued t).noted? = none from notNoted] at recalls
  exact ⟨hf, hs, recalls⟩

theorem closeDrop {hand : List Waiter} {i : Fin 4} {e : TxnEntry} (h : CoherentWith hand rs s)
    (hg : s.txns[g] = .issued t) (hk : t.kind = .writebackDrop x i) (he : TxnEntry.txn? e = none)
    (hv : v.bound = (s.dir, upd s.txns g e, upd s.eb i none, s.pins, s.recallQueue, s.recallCount)) :
    CoherentWith hand rs v := by
  obtain ⟨hd, ht, heb, hp, hq, hc⟩ := bound_eq.1 hv
  refine h.closeWayless hg (by rw [hk]; rfl) he ?_ (hd ▸ h.form) (by simp only [State.recalling, ht, hp, hq, hc])
  have hb : v.board = (s.board.setBuf i none).setTxn g (TxnEntry.txn? e) :=
    Board.ext (way_same hd) (txn_upd ht) (buf_upd heb) (pin_same hp)
  rw [hb, he]
  exact h.sound.closeDrop (txn?_eq_some.2 hg) hk

theorem closeLineless {hand : List Waiter} {e : TxnEntry} (h : CoherentWith hand rs s) (hg : s.txns[g] = .issued t)
    (hk : t.kind.line? = none) (he : TxnEntry.txn? e = none)
    (hv : v.bound = (s.dir, upd s.txns g e, s.eb, s.pins, s.recallQueue, s.recallCount)) : CoherentWith hand rs v := by
  obtain ⟨hd, ht, heb, hp, hq, hc⟩ := bound_eq.1 hv
  refine h.closeWayless hg (of_lineless hk).1 he ?_ (hd ▸ h.form) (by simp only [State.recalling, ht, hp, hq, hc])
  have hb : v.board = s.board.setTxn g (TxnEntry.txn? e) :=
    Board.ext (way_same hd) (txn_upd ht) (buf_same heb) (pin_same hp)
  rw [hb, he]
  exact h.sound.closeLineless (txn?_eq_some.2 hg) hk

/-- The way at the end of a WRITEBACK KEEP: X or M where it held the line in CLEANING, else as it was. -/
theorem endKeep_cases (s : State) (x : Addr) (l : Loc) (after : CopyState) :
    (∃ data, s.wayAt l = .copy .cleaning x data ∧ s.endKeep x l after = s.putWay l (.copy after x data)) ∨
      Way.cleaning? (s.wayAt l) ≠ some x ∧ s.endKeep x l after = s := by
  unfold State.endKeep
  split
  · next y data hw =>
    split
    · next hy =>
      subst hy
      exact .inl ⟨data, hw, rfl⟩
    · next hy => exact .inr ⟨fun hc => hy (by rw [hw] at hc; exact Option.some.inj hc), rfl⟩
  · next hw =>
    refine .inr ⟨fun hc => ?_, rfl⟩
    unfold Way.cleaning? at hc
    split at hc
    · next heq => exact hw _ _ heq
    · cases hc

theorem closeKeep {hand : List Waiter} {e : TxnEntry} {after : CopyState} (h : CoherentWith hand rs s)
    (hg : s.txns[g] = .issued t) (hk : t.kind = .writebackKeep x l) (ha : after = .x ∨ after = .m)
    (he : TxnEntry.txn? e = none) (hv : v.bound = ((s.endKeep x l after).putEntry g e).bound) :
    CoherentWith hand rs v := by
  have wayless : t.kind.fetchLoc? = none := by rw [hk]; rfl
  obtain ⟨data, hw, hend⟩ | ⟨hw, hend⟩ := endKeep_cases s x l after
  · rw [hend] at hv
    obtain ⟨hd, ht, heb, hp, hq, hc⟩ := bound_eq.1 hv
    refine h.closeWayless hg wayless he ?_ (hd ▸ dirWf_putWay s l _ h.form)
      (by simp only [State.recalling, ht, hp, hq, hc]; rfl)
    have hb : v.board = (s.board.setWay l (.copy after x data)).setTxn g (TxnEntry.txn? e) :=
      Board.ext (way_putWay h.form hd) (txn_upd ht) (buf_same heb) (pin_same hp)
    rw [hb, he]
    refine h.sound.closeKeep (txn?_eq_some.2 hg) hk (.inr ⟨?_, isExclusive_copy_iff.2 ⟨rfl, ha⟩⟩)
    show Way.cleaning? (s.wayAt l) = some x
    rw [hw]
    rfl
  · rw [hend] at hv
    obtain ⟨hd, ht, heb, hp, hq, hc⟩ := bound_eq.1 hv
    refine h.closeWayless hg wayless he ?_ (hd ▸ h.form) (by simp only [State.recalling, ht, hp, hq, hc]; rfl)
    have hb : v.board = (s.board.setWay l (s.board.way l)).setTxn g (TxnEntry.txn? e) := by
      rw [Board.setWay_self]
      exact Board.ext (way_same hd) (txn_upd ht) (buf_same heb) (pin_same hp)
    rw [hb, he]
    exact h.sound.closeKeep (txn?_eq_some.2 hg) hk (.inl ⟨rfl, hw⟩)

/-- The entry is abandoned, by FAIL or at its expiry (R80 to R84). -/
theorem abandoned {st : RespStatus} {e : TxnEntry} (h : CoherentWith [] rs s) (hg : s.txns[g] = .issued t)
    (he : TxnEntry.txn? e = none) (hv : v.bound = ((s.abandon t st).putEntry g e).bound) : CoherentWith [] rs v := by
  cases hk : t.kind with
  | fetchS y l | fetchX y l | upgrade y l b =>
    have hl : t.kind.fetchLoc? = some l := by rw [hk]; rfl
    have hx : t.kind.line? = some y := by rw [hk]; rfl
    have closed := h.closeFetch (v := (s.putWay l .i).putEntry g e) hg hl hx (.inl rfl) he rfl
    have freed : CoherentWith [] (t.noted.toList ++ rs)
        { (s.putWay l .i).putEntry g e with pins := pinsWithout s.pins t.waiters } :=
      freePins (s := (s.putWay l .i).putEntry g e) (hand := []) (x := y) (ws := t.waiters) (by rwa [List.append_nil])
        (fun w hw => (h.listed_waits hg hl hx w hw).holds) rfl
    refine freed.dropNoted.of_same (hv.trans ?_)
    rw [abandon_fetch hl, dropNoted_eq]
    rfl
  | writebackKeep y l =>
    rw [abandon_keep hk] at hv
    exact h.closeKeep hg hk (.inr rfl) he hv
  | writebackDrop y i =>
    rw [abandon_drop hk] at hv
    exact h.closeDrop hg hk he hv
  | ucRead | ucWrite | farAtomic =>
    have line : t.kind.line? = none := by rw [hk]; rfl
    have noPins (w) (hw : w ∈ t.waiters) : Waiter.pin? w = none := by
      refine Option.eq_none_iff_forall_ne_some.2 fun i hi => ?_
      obtain ⟨-, -, -, hloc, -⟩ := h.sound.listedWaits g t w i (txn?_eq_some.2 hg) hw hi
      rw [(of_lineless line).1] at hloc
      cases hloc
    rw [abandon_lineless line, pinsWithout_of_none noPins] at hv
    exact h.closeLineless hg line he hv

theorem expireTxn (h : CoherentWith [] rs s) (g : Tag) : CoherentWith [] rs (s.expireTxn g) := by
  unfold State.expireTxn
  split
  · next t hg =>
    split
    · have timed : CoherentWith [] rs (s.timedOut g t) := h.of_same rfl
      have gone := timed.abandoned (v := ((s.timedOut g t).abandon t .farTimeout).putEntry g .orphaned) hg
        (e := .orphaned) rfl rfl
      refine gone.of_same ?_
      rw [reportEnd_eq]
      rfl
    · exact h
  · exact h

end CoherentWith

/-! ### The responses, by their kind -/

/-- What a response does to the ISSUED entry that it fits keeps the law. -/
def AppliesCoherently (f : State → Tag → Txn → List Byte → Option State) : Prop :=
  ∀ s g t payload u, CoherentWith [] [] s → s.txns[g] = .issued t → f s g t payload = some u → CoherentWith [] [] u

theorem applyGrantSData_coherent : AppliesCoherently applyGrantSData := by
  intro s g t payload u h hg hu
  unfold applyGrantSData at hu
  split at hu
  · split at hu
    · next hk => cases hu; exact h.granted hg (by rw [hk]; rfl) (by rw [hk]; rfl) (.inl rfl) _
    · next hk => cases hu; exact h.granted hg (by rw [hk]; rfl) (by rw [hk]; rfl) (.inl rfl) _
    · cases hu
  · cases hu

theorem applyGrantXData_coherent : AppliesCoherently applyGrantXData := by
  intro s g t payload u h hg hu
  unfold applyGrantXData at hu
  split at hu
  · split at hu
    · next hk => cases hu; exact h.granted hg (by rw [hk]; rfl) (by rw [hk]; rfl) (.inr (.inl rfl)) _
    · next hk => cases hu; exact h.granted hg (by rw [hk]; rfl) (by rw [hk]; rfl) (.inr (.inl rfl)) _
    · next hk => cases hu; exact h.granted hg (by rw [hk]; rfl) (by rw [hk]; rfl) (.inr (.inl rfl)) _
    · cases hu
  · cases hu

/-- R77: the upgrade that has lost its copy goes on as a fetch under its tag, its list and noted recall with it. -/
theorem CoherentWith.reissue {s v : State} {rs : List RecallRecord} {g : Tag} {t u : Txn} {x : Addr} {l : Loc}
    (h : CoherentWith [] rs s) (hg : s.txns[g] = .issued t) (hk : t.kind = .upgrade x l true)
    (hu : u.kind = .fetchX x l) (hws : u.waiters = t.waiters) (hn : u.noted = t.noted)
    (hv : v.bound = (s.dir, upd s.txns g (.issued u), s.eb, s.pins, s.recallQueue, s.recallCount)) :
    CoherentWith [] rs v := by
  have hl : t.kind.fetchLoc? = some l := by rw [hk]; rfl
  have hway : s.wayAt l = .fill x := by
    have hm := h.sound.entryHasWay g t l (txn?_eq_some.2 hg) hl
    rw [hk] at hm
    exact hm
  refine h.keepEntry ?_ ?_ hv
  · rw [← Board.setWay_self s.board l]
    refine h.sound.reenter (ws := []) (txn?_eq_some.2 hg) hl (by rw [hu]; rfl) (by rw [hu, hk]; rfl) ?_ (by simp [hws])
      (hws ▸ (h.sound.listBounded g t (txn?_eq_some.2 hg)).1) (fun r hr => ?_) (by simp)
    · rw [hu]
      exact hway
    · obtain ⟨hx, m, hm, hfill⟩ := h.sound.notedInFill g t r (txn?_eq_some.2 hg) (hn ▸ hr)
      obtain rfl : l = m := Option.some.inj (hl.symm.trans hm)
      exact ⟨by rw [hu, ← hx, hk]; rfl, hfill⟩
  · rw [hg]
    exact hn

theorem applyGrantX_coherent : AppliesCoherently applyGrantX := by
  intro s g t payload u h hg hu
  unfold applyGrantX at hu
  split at hu
  · split at hu
    · next x l hk =>
      cases hu
      exact h.reissue hg hk (u := { kind := .fetchX x l, waiters := t.waiters, noted := t.noted, origin := t.origin,
                                    deadline := s.now + s.config.farTimeout }) rfl rfl rfl rfl
    · next x l hk =>
      have hm := h.sound.entryHasWay g t l (txn?_eq_some.2 hg) (by rw [hk]; rfl)
      rw [hk] at hm
      obtain ⟨data, hw⟩ : ∃ data, s.wayAt l = .copy .upgrade x data := hm
      rw [hw] at hu
      cases hu
      exact h.granted hg (by rw [hk]; rfl) (by rw [hk]; rfl) (.inr (.inl rfl)) _
    · cases hu
  · cases hu

theorem applyWbDone_coherent : AppliesCoherently applyWbDone := by
  intro s g t payload u h hg hu
  unfold applyWbDone at hu
  split at hu
  · split at hu
    · next x i hk =>
      cases hu
      refine (h.closeDrop (v := (s.releaseSlot i).releaseTag g) hg hk (e := .free) rfl rfl).of_same ?_
      rw [reportEnd_eq]
      rfl
    · next x l hk =>
      cases hu
      refine (h.closeKeep (v := (s.endKeep x l .x).releaseTag g) hg hk (.inl rfl) (e := .free) rfl rfl).of_same ?_
      rw [reportEnd_eq]
      rfl
    · cases hu
  · cases hu

theorem completeUncached_coherent {s : State} {g : Tag} {t : Txn} (data : List Byte) (h : CoherentWith [] [] s)
    (hg : s.txns[g] = .issued t) (hk : t.kind.line? = none) : CoherentWith [] [] (s.completeUncached g t data) := by
  rw [completeUncached_eq]
  exact h.closeLineless hg hk (e := .free) rfl rfl

theorem applyUcData_coherent : AppliesCoherently applyUcData := by
  intro s g t payload u h hg hu
  unfold applyUcData at hu
  split at hu
  · next hk =>
    split at hu <;> cases hu
    exact completeUncached_coherent _ h hg (by rw [hk]; rfl)
  · cases hu

theorem applyUcDone_coherent : AppliesCoherently applyUcDone := by
  intro s g t payload u h hg hu
  unfold applyUcDone at hu
  split at hu
  · split at hu
    · next hk =>
      cases hu
      exact completeUncached_coherent _ h hg (by rw [hk]; rfl)
    · cases hu
  · cases hu

theorem applyAtomicResult_coherent : AppliesCoherently applyAtomicResult := by
  intro s g t payload u h hg hu
  unfold applyAtomicResult at hu
  split at hu
  · next hk =>
    split at hu <;> cases hu
    exact completeUncached_coherent _ h hg (by rw [hk]; rfl)
  · cases hu

theorem applyFail_coherent : AppliesCoherently applyFail := by
  intro s g t payload u h hg hu
  unfold applyFail at hu
  split at hu <;> cases hu
  refine (h.abandoned (v := (s.abandon t .farFail).releaseTag g) hg (e := .free) rfl rfl).of_same ?_
  rw [reportEnd_eq]
  rfl

/-- A late response frees its ORPHANED tag (R67). -/
theorem CoherentWith.freeOrphan {s : State} {hand : List Waiter} {rs : List RecallRecord} {g : Tag}
    (h : CoherentWith hand rs s) (hg : s.txns[g] = .orphaned) : CoherentWith hand rs (s.releaseTag g) := by
  have orphan : s.board.txn g = TxnEntry.txn? .free := (congrArg TxnEntry.txn? hg).trans rfl
  refine h.keepEntry (g := g) (e := .free) ?_ (by rw [hg]; rfl) rfl
  rw [Board.setTxn_self _ orphan]
  exact h.sound

/-- Conditions 1 to 3 of R67, and the response applied. -/
theorem takeResponse_coherent {f : State → Tag → Txn → List Byte → Option State} (hf : AppliesCoherently f) {s : State}
    (h : CoherentWith [] [] s) (wanted : Packet → Bool) : CoherentWith [] [] (s.takeResponse wanted f) := by
  unfold State.takeResponse
  split
  · next p rest _ =>
    split
    · have taken : CoherentWith [] [] { s with respCh := rest } := h.of_same rfl
      unfold State.respond
      split
      · exact taken.of_same rfl
      · next g _ =>
        split
        · exact taken.of_same rfl
        · next hg => exact taken.freeOrphan hg
        · next t hg =>
          split
          · next hu => exact hf _ _ _ _ _ taken hg hu
          · exact taken.of_same rfl
    · exact h
  · exact h

end Sys2Proof.Machine
end

section
/-! SUPPORT. Drain visits, the bulk events and management commands keep the law of coherence (R56, R139 to R149, R169,
R172, R174), and with them every command and the end of a microsecond. -/

namespace Sys2Proof.Machine

open Sys2Proof.Safety

/-! ### The drain engine (R142 to R145) -/

theorem advanceCursor_bound (s : State) : s.advanceCursor.bound = s.bound := by
  unfold State.advanceCursor
  simp only [endScan_eq, completeDrain_eq]
  (repeat' split) <;> rfl

namespace CoherentWith

variable {s : State} {rs : List RecallRecord} {hand : List Waiter}

/-- A modified line is cleaned in its way (R143). -/
theorem cleaned {v : State} {l : Loc} {x : Addr} {data : LineData} {g : Tag} {t : Txn} (h : CoherentWith hand rs s)
    (hw : s.wayAt l = .copy .m x data) (hpin : s.activePinAt l = none) (hg : s.freeTag = some g)
    (hk : t.kind = .writebackKeep x l) (hws : t.waiters = []) (hn : t.noted = none)
    (hv : v.bound = ((s.putWay l (.copy .cleaning x data)).dir, upd s.txns g (.issued t), s.eb, s.pins, s.recallQueue,
      s.recallCount)) : CoherentWith hand rs v := by
  have free := txns_of_freeTag hg
  have kept : Way.isCleaned x (.copy .cleaning x data) = true := beq_self_eq_true x
  refine h.putWayEntry (h.sound.openKeep (x := x) ?_ ?_ ?_ kept rfl hk hws hn) ?_ hv
  · exact (congrArg TxnEntry.txn? free).trans rfl
  · show Way.isExclusive x (s.wayAt l) = true
    rw [hw]
    exact isExclusive_copy_iff.2 ⟨rfl, .inr rfl⟩
  · exact fun i p d r hi hst => activePinAt_eq_none hpin i p l d r hi hst rfl
  · rw [free]
    exact hn

/-- A clean line is dropped from its way (R144). -/
theorem dropped {l : Loc} (h : CoherentWith hand rs s) (hw : Way.awaits (s.wayAt l) = false)
    (hpin : s.activePinAt l = none) : CoherentWith hand rs (s.putWay l .i) :=
  h.putWay (h.sound.setWay (.inl rfl) hw rfl rfl (fun y hy => by cases hy)
    fun i p d r hi hst => absurd rfl (activePinAt_eq_none hpin i p l d r hi hst)) rfl

theorem visitWay (h : CoherentWith hand rs s) (l : Loc) : CoherentWith hand rs (s.visitWay l) := by
  unfold State.visitWay
  split
  · exact h.of_same (advanceCursor_bound _)
  · next hp =>
    have hpin : s.activePinAt l = none := by simpa using hp
    split
    · next x data _ hw =>
      unfold State.visitKeep
      split
      · next g hg =>
        refine of_same ?_ (advanceCursor_bound _)
        exact h.cleaned hw hpin hg (t := { kind := .writebackKeep x l, waiters := [], noted := none, origin := .drain,
                                           deadline := s.now + s.config.farTimeout }) rfl rfl rfl rfl
      · exact h.of_same rfl
    · next x data _ hw =>
      unfold State.visitDrop
      split
      · next slot g hs hg =>
        have sent := h.evict hw (fun i p d r hi hst => activePinAt_eq_none hpin i p l d r hi hst rfl) hs hg
          .drain .drain
        exact sent.of_same (advanceCursor_bound _)
      · exact h.of_same rfl
    · next hw => exact (h.dropped (by rw [hw]; rfl) hpin).of_same (advanceCursor_bound _)
    · next hw => exact (h.dropped (by rw [hw]; rfl) hpin).of_same (advanceCursor_bound _)
    · exact h.of_same (advanceCursor_bound _)

theorem visit (h : CoherentWith hand rs s) : CoherentWith hand rs s.visit := by
  unfold State.visit
  split
  · split
    · exact h.visitWay _
    · exact h
  · exact h

/-! ### The bulk events -/

/-- Empty tables are coherent. -/
theorem of_empty (hf : dirWf s.dir = true) (hway : ∀ l, s.wayAt l = .i) (ht : ∀ g : Tag, TxnEntry.txn? s.txns[g] = none)
    (hb : ∀ i : Fin 4, s.eb[i] = none) (hp : ∀ i : Fin 4, s.pins[i] = none) (hq : s.recallQueue = [])
    (hc : s.recallCount = 0) : CoherentWith [] [] s := by
  refine ⟨hf, .of_empty hway ht hb hp, ?_⟩
  have noted : s.notedRecalls = [] := by
    refine List.filterMap_eq_nil_iff.2 fun e he => ?_
    obtain ⟨g, hg, rfl⟩ := List.getElem_of_mem he
    have := ht ⟨g, by simpa using hg⟩
    simp only [Fin.getElem_fin] at this
    simp only [Vector.getElem_toList]
    cases hx : s.txns[g]'(by simpa using hg) with
    | issued t => rw [hx] at this; cases this
    | _ => rfl
  have deferred : s.deferredRecalls = [] := by
    refine List.filterMap_eq_nil_iff.2 fun e he => ?_
    obtain ⟨i, hi, rfl⟩ := List.getElem_of_mem he
    have := hp ⟨i, by simpa using hi⟩
    simp only [Fin.getElem_fin] at this
    simp only [Vector.getElem_toList, this]
    rfl
  have none : s.unacknowledged = [] := by rw [State.unacknowledged, hq, noted, deferred]; rfl
  exact ⟨by rw [hc, none]; rfl, by omega, by rw [none]; exact List.nodup_nil⟩

end CoherentWith

/-- A traffic reset empties every table (R172). -/
theorem coherentWith_trafficReset (s : State) : CoherentWith [] [] s.trafficReset := by
  unfold State.trafficReset
  rw [stopDrain_eq]
  refine .of_empty rfl (fun l => ?_) (fun g => ?_) (fun i => replicate_get ..) (fun i => replicate_get ..) rfl rfl
  · exact replicate_get ..
  · refine (congrArg TxnEntry.txn? (mapTable_get ..)).trans ?_
    rw [orphan_eq]
    split <;> rfl

/-- The loss of the far link empties every table (R169). -/
theorem coherentWith_loseFarLink {s : State} (hf : dirWf s.dir = true) : CoherentWith [] [] s.loseFarLink := by
  rw [loseFarLink_eq]
  refine .of_empty (dirWf_mapSets _ _ hf) (fun l => ?_) (fun g => ?_) (fun i => replicate_get ..)
    (fun i => replicate_get ..) rfl rfl
  · refine (congrArg (fun d : DirSet => d.ways[l.way]) (readSet_mapSets DirSet.clear rfl s.dir l.set hf)).trans ?_
    exact replicate_get ..
  · exact (congrArg TxnEntry.txn? (replicate_get ..)).trans rfl

/-- A cold reset empties every table (R176). -/
theorem coherentWith_coldReset {s t : State} (h : exec .coldReset s = .next t) : CoherentWith [] [] t := by
  cases h
  exact .of_empty rfl wayAt_reset (fun g => (congrArg TxnEntry.txn? (txns_reset g)).trans rfl) eb_reset pins_reset
    rfl rfl

/-! ### The loss of the near link (R174) -/

/-- Every held pin record is ACTIVE. -/
def AllActive (s : State) : Prop := ∀ (i : Fin 4) (p : Pin), s.pins[i] = some p → p.isActive = true

theorem allActive_applyRecall {s : State} (h : AllActive s) (r : RecallRecord) : AllActive (s.applyRecall r) := by
  unfold State.applyRecall
  split
  · split
    · unfold State.deferRecall
      split
      · split
        · intro j q hj
          change (upd s.pins _ _)[j] = _ at hj
          rw [upd_get] at hj
          split at hj
          · cases hj
            rfl
          · exact h j q hj
        · exact h
      · exact h
    · split
      · exact h
      · unfold State.noteRecall
        split <;> exact h
      · next st x data _ =>
        unfold State.recallCopy State.markCopyLost
        (repeat' split) <;> exact h
  · split <;> exact h

namespace CoherentWith

variable {s : State}

theorem nearLost (h : CoherentWith [] [] s) : CoherentWith [] [] s.nearLost ∧ AllActive s.nearLost := by
  have pins (i : Fin 4) : s.nearLost.pins[i] = (s.pins[i]).filter Pin.isActive := by
    rw [nearLost_pins]
    cases s.pins[i] with
    | none => rfl
    | some p => rw [dropWaiting, Option.filter_some]
  have txns (g : Tag) : s.nearLost.txns[g] = s.txns[g].dropWaiters := mapTable_get ..
  refine ⟨⟨h.form, ?_, h.recalls.of_congr rfl rfl (fun g => ?_) fun i => ?_⟩, fun i p hp => ?_⟩
  · refine h.sound.dropWaiters rfl rfl (fun g => ?_) pins
    show TxnEntry.txn? s.nearLost.txns[g] = (TxnEntry.txn? s.txns[g]).map _
    rw [txns]
    cases s.txns[g] <;> rfl
  · rw [txns]
    cases s.txns[g] <;> rfl
  · rw [pins]
    cases s.pins[i] with
    | none => rfl
    | some p =>
      rw [Option.filter_some]
      split
      · rfl
      · next hp =>
        show none = p.deferred?
        unfold Pin.deferred?
        split
        · next hst => simp [Pin.isActive, hst] at hp
        · rfl
  · rw [pins] at hp
    exact (Option.filter_eq_some_iff.1 hp).2

theorem clearPin (h : CoherentWith [] [] s) (ha : AllActive s) (i : Fin 4) :
    CoherentWith [] [] (s.clearPin i) ∧ AllActive (s.clearPin i) := by
  unfold State.clearPin
  split
  · next p hp =>
    have active := ha i p hp
    unfold Pin.isActive at active
    split at active
    · next l d r hst =>
      rw [show p.deferred? = r by rw [Pin.deferred?, hst]]
      refine ⟨h.endPin hp hst, ?_⟩
      have freed : AllActive (s.putPin i none) := fun j q hj => by
        change (upd s.pins i none)[j] = _ at hj
        rw [upd_get] at hj
        split at hj
        · cases hj
        · exact ha j q hj
      cases r with
      | none => exact freed
      | some r => exact allActive_applyRecall freed r
    · cases active
  · exact ⟨h, ha⟩

theorem loseNearLink (h : CoherentWith [] [] s) : CoherentWith [] [] s.loseNearLink := by
  have all (is : List (Fin 4)) : ∀ {t : State}, CoherentWith [] [] t → AllActive t →
      CoherentWith [] [] (is.foldl State.clearPin t) := by
    induction is with
    | nil => exact fun ht _ => ht
    | cons i is ih => exact fun ht ha => ih (ht.clearPin ha i).1 (ht.clearPin ha i).2
  have cleared : CoherentWith [] [] s.nearLost.clearPins := all _ h.nearLost.1 h.nearLost.2
  rw [loseNearLink_eq]
  generalize s.nearLost.clearPins = u at cleared
  exact cleared.of_same rfl

end CoherentWith

/-! ### Management commands, and the delivery of notices -/

/-- The execution of a command keeps the law. -/
def RunsCoherently (run : State → Packet → State) : Prop :=
  ∀ s p, CoherentWith [] [] s → CoherentWith [] [] (run s p)

section commands

variable (s : State) (p : Packet)

/-- The commands whose execution leaves what the law speaks of as it is. -/
theorem run_bound {run : State → Packet → State}
    (h : run ∈ [runReadWindow, runReadWatch, runReadConfig, runWriteWindow, runWriteWatch, runWriteConfig,
      runPopCapture, runDiscardHold, runReattach, runDrain]) : (run s p).bound = s.bound := by
  simp only [List.mem_cons, List.not_mem_nil, or_false] at h
  obtain rfl | rfl | rfl | rfl | rfl | rfl | rfl | rfl | rfl | rfl := h
  · unfold runReadWindow; (repeat' split) <;> rfl
  · unfold runReadWatch; (repeat' split) <;> rfl
  · unfold runReadConfig; split <;> rfl
  · unfold runWriteWindow; (repeat' split) <;> rfl
  · unfold runWriteWatch; (repeat' split) <;> rfl
  · unfold runWriteConfig; (repeat' split) <;> rfl
  · unfold runPopCapture; split <;> rfl
  · unfold runDiscardHold; (repeat' split) <;> rfl
  · unfold runReattach; split <;> rfl
  · unfold runDrain; (repeat' split) <;> rfl

theorem runDrainAbort_bound : (runDrainAbort s p).bound = s.bound := by
  unfold runDrainAbort
  split
  · rfl
  · rw [endScan_eq, completeDrain_eq]
    split <;> rfl
  · rfl

theorem takeNotice_bound : s.takeNotice.bound = s.bound := by
  unfold State.takeNotice
  split <;> rfl

theorem endInterval_bound : s.endInterval.bound = s.bound := by
  unfold State.endInterval
  split
  · split
    · exact takeNotice_bound _
    · rfl
  · rfl

end commands

theorem runReleaseHold_coherent : RunsCoherently runReleaseHold := by
  intro s p h
  unfold runReleaseHold
  split
  · next i _ =>
    split
    · have released : CoherentWith [] [] { s with holds := upd s.holds i none } := h.of_same rfl
      exact (released.admitFromMode _).of_same rfl
    · exact h.of_same rfl
  · exact h.of_same rfl

theorem runBreakPin_coherent : RunsCoherently runBreakPin := by
  intro s p h
  unfold runBreakPin
  split
  · split
    · next hi =>
      split
      · next hst => exact (h.endPin hi hst).of_same rfl
      · exact h.of_same rfl
    · exact h.of_same rfl
  · exact h.of_same rfl

theorem runTrafficReset_coherent : RunsCoherently runTrafficReset := by
  intro s p _
  have reset := coherentWith_trafficReset s
  unfold runTrafficReset
  generalize s.trafficReset = u at reset
  exact reset.of_same rfl

/-- A taken command keeps the law when its execution does. -/
theorem takeCommand_coherent {run : State → Packet → State} (hr : RunsCoherently run) (wanted : Packet → Bool)
    {s : State} (h : CoherentWith [] [] s) : CoherentWith [] [] (s.takeCommand wanted run) := by
  unfold State.takeCommand
  split
  · next p rest _ =>
    split
    · have taken : CoherentWith [] [] (s.takeHead p rest) := h.of_same rfl
      unfold State.command
      split
      · exact taken.of_same rfl
      · split
        · exact taken.of_same rfl
        · exact hr _ _ taken
    · exact h
  · exact h

/-! ### Every step -/

/-- Every command keeps the law of coherence. -/
theorem exec_coherent {c : Instr} {s t : State} (hs : CoherentWith [] [] s) (h : exec c s = .next t) :
    CoherentWith [] [] t := by
  have command {run : State → Packet → State} (hr : RunsCoherently run) (wanted) :
      CoherentWith [] [] (s.takeCommand wanted run) := takeCommand_coherent hr wanted hs
  have silent {run : State → Packet → State} (hr : ∀ s p, (run s p).bound = s.bound) (wanted) :
      CoherentWith [] [] (s.takeCommand wanted run) := command (fun s p h => h.of_same (hr s p)) wanted
  cases c with
  | packetArrival p =>
    cases h
    split <;> exact hs.of_same rfl
  | read => cases h; exact hs.takeRequest _
  | write => cases h; exact hs.takeRequest _
  | lockRead => cases h; exact hs.takeRequest _
  | unlockWrite => cases h; exact hs.takeRequest _
  | atomic => cases h; exact hs.takeRequest _
  | unknownKindRequest =>
    simp only [exec, execUnknownKindRequest] at h
    (repeat' split at h) <;> cases h <;> exact hs.of_same rfl
  | responseArrival p =>
    cases h
    split <;> exact hs.of_same rfl
  | grantSData => cases h; exact takeResponse_coherent applyGrantSData_coherent hs _
  | grantXData => cases h; exact takeResponse_coherent applyGrantXData_coherent hs _
  | grantX => cases h; exact takeResponse_coherent applyGrantX_coherent hs _
  | wbDone => cases h; exact takeResponse_coherent applyWbDone_coherent hs _
  | ucData => cases h; exact takeResponse_coherent applyUcData_coherent hs _
  | ucDone => cases h; exact takeResponse_coherent applyUcDone_coherent hs _
  | atomicResult => cases h; exact takeResponse_coherent applyAtomicResult_coherent hs _
  | fail => cases h; exact takeResponse_coherent applyFail_coherent hs _
  | unknownResponse =>
    cases h
    exact takeResponse_coherent (fun _ _ _ _ _ _ _ h => by cases h) hs _
  | shortResponse =>
    simp only [exec, execShortResponse] at h
    (repeat' split at h) <;> cases h <;> exact hs.of_same rfl
  | transactionExpiry g => cases h; exact hs.expireTxn g
  | recallArrival p =>
    cases h
    split
    · exact (hs.of_same (t := { s with recallCh := s.recallCh ++ [p] }) rfl).examineRecalls
    · exact hs
  | downgrade => cases h; exact hs.takeRecall _
  | surrender => cases h; exact hs.takeRecall _
  | pinExpiry i => cases h; exact hs.expirePin i
  | drainVisit => cases h; exact hs.visit
  | readEntryWindow => cases h; exact silent (fun s p => run_bound s p (by simp)) _
  | readEntryWatch => cases h; exact silent (fun s p => run_bound s p (by simp)) _
  | readEntryConfig => cases h; exact silent (fun s p => run_bound s p (by simp)) _
  | writeEntryWindow => cases h; exact silent (fun s p => run_bound s p (by simp)) _
  | writeEntryWatch => cases h; exact silent (fun s p => run_bound s p (by simp)) _
  | writeEntryConfig => cases h; exact silent (fun s p => run_bound s p (by simp)) _
  | readStatus => cases h; exact silent (run := runReadStatus) (fun _ _ => rfl) _
  | probeLine => cases h; exact silent (run := runProbeLine) (fun _ _ => rfl) _
  | listPins => cases h; exact silent (run := runListPins) (fun _ _ => rfl) _
  | drain => cases h; exact silent (fun s p => run_bound s p (by simp)) _
  | drainAbort => cases h; exact silent runDrainAbort_bound _
  | popCapture => cases h; exact silent (fun s p => run_bound s p (by simp)) _
  | releaseHold => cases h; exact command runReleaseHold_coherent _
  | discardHold => cases h; exact silent (fun s p => run_bound s p (by simp)) _
  | breakPin => cases h; exact command runBreakPin_coherent _
  | trafficReset => cases h; exact command runTrafficReset_coherent _
  | reattach => cases h; exact silent (fun s p => run_bound s p (by simp)) _
  | noticeTake => cases h; exact hs.of_same (takeNotice_bound s)
  | noticeIntervalEnd => cases h; exact hs.of_same (endInterval_bound s)
  | egressDeparture =>
    simp only [exec, execEgressDeparture] at h
    split at h <;> cases h <;> exact hs.of_same rfl
  | farPacketDeparture channel =>
    simp only [exec, execFarPacketDeparture] at h
    (repeat' split at h) <;> cases h <;> exact hs.of_same rfl
  | nearLinkDown =>
    simp only [exec, execNearLinkDown] at h
    split at h <;> cases h
    · exact hs.loseNearLink
    · exact hs
  | nearLinkUp =>
    simp only [exec, execNearLinkUp] at h
    split at h <;> cases h <;> exact hs.of_same rfl
  | farLinkDown =>
    simp only [exec, execFarLinkDown] at h
    split at h <;> cases h
    · exact coherentWith_loseFarLink hs.form
    · exact hs
  | farLinkUp => cases h; exact hs.of_same rfl
  | coldReset => exact coherentWith_coldReset h
  | unknownCommand =>
    simp only [exec, execUnknownCommand] at h
    (repeat' split at h) <;> cases h <;> exact hs.of_same rfl

/-- The end of a microsecond: due entries and pins expire one by one (R84, R120, R183). -/
theorem tick_coherent {s : State} (h : CoherentWith [] [] s) : CoherentWith [] [] s.tick := by
  have all {α : Type} {f : State → α → State} (hf : ∀ {t a}, CoherentWith [] [] t → CoherentWith [] [] (f t a))
      (l : List α) : ∀ {t : State}, CoherentWith [] [] t → CoherentWith [] [] (l.foldl f t) := by
    induction l with
    | nil => exact id
    | cons a l ih => exact fun ht => ih (hf ht)
  have tables : CoherentWith [] [] s.expiredTables :=
    all (fun ht => ht.expirePin _) _ (all (fun ht => ht.expireTxn _) _ h)
  have due : CoherentWith [] [] s.expireDue := tables.of_same (endInterval_bound s.expiredTables)
  unfold State.tick
  generalize s.expireDue = u at due ⊢
  exact due.of_same rfl

/-- Settles O13: the law over the four tables and the recalls, with waiters and recalls in hand inside a step; a command
at the front by `exec_coherent`, the empty queue by `tick_coherent`. -/
theorem stepsKeepCoherence : Obligations.StepsKeepCoherence := by
  intro s t hs h
  have before := coherentWith_of_coherent hs
  unfold step at h
  split at h
  · next c rest _ =>
    exact (exec_coherent (before.of_same (t := { s with pending := rest }) rfl) h).coherent
  · rw [Host.Outcome.next.injEq] at h
    exact (h ▸ tick_coherent before).coherent

end Sys2Proof.Machine
end
